-- ==== Sys2Proof/Word.lean ====
section
/-!
DEFINITION. The word types of RandomSeq CORE: command and response words, samples and codes, and what
stands on an input port. Every quantity of the block is unsigned, bit 0 least significant (spec/00 R7).
-/

namespace Sys2Proof

/-- `RES`, the bits of a sample and of an output code: decided 12 (spec/00 R6, D5). -/
abbrev RES : Nat := 12

/-- A command word on the `cmd` port (spec/30 R60). -/
abbrev CmdWord := BitVec 64

/-- A response word on the `rsp` port (spec/30 R66). -/
abbrev RspWord := BitVec 32

/-- A `RES`-bit reading of the Device I/O (spec/20 R44). -/
abbrev Sample := BitVec 12

/-- A `RES`-bit code for the analog output (spec/20 R45). -/
abbrev Code := BitVec 12

/-- A 16-bit register or operand field (spec/10, spec/30 R61). -/
abbrev Half := BitVec 16

/-- What an input port can carry as an instruction: a command word on `cmd`, or the level of the one-bit
`tick` port (spec/30 R59, R60, R68). -/
inductive PortWord where
  | cmd (w : CmdWord)
  | tick (b : BitVec 1)
  deriving DecidableEq, Repr

end Sys2Proof
end

