-- ==== Sys2Proof/Syntax.lean ====
section
/-!
DEFINITION. The instructions of RandomSeq CORE: one constructor per row of spec/opcode_table.json, operands
in the order of the assembler syntax (spec/30 R63, R70).
-/

namespace Sys2Proof

/-- The edge polarity (spec/10 R16, spec/90 C3): named by what the sampled value does. -/
inductive Polarity where
  /-- `HI_TO_LO`, encoded 0: the value falls through the band. -/
  | hiToLo
  /-- `LO_TO_HI`, encoded 1: the value rises through the band. -/
  | loToHi
  deriving DecidableEq, Repr

/-- The seventeen host commands and the tick-fired operation (spec/30 R63). -/
inductive Instr where
  /-- `CONFIGURE rate, pol, low, high` (spec/40 R81). -/
  | configure (rate : Half) (pol : Polarity) (low high : Half)
  /-- `START` (spec/40 R82). -/
  | start
  /-- `STOP` (spec/40 R83). -/
  | stop
  /-- `SET_DIVISOR n` (spec/40 R84). -/
  | setDivisor (n : Half)
  /-- `SET_NEXT_OUTPUT code` (spec/40 R85). -/
  | setNextOutput (code : Half)
  /-- `SAMPLE`, fired by the tick (spec/40 R87). -/
  | sample
  /-- `HAS_TICKED` (spec/40 R88). -/
  | hasTicked
  /-- `ACK` (spec/40 R89). -/
  | ack
  /-- `READ_AUX` (spec/40 R90). -/
  | readAux
  /-- `STEP` (spec/41 R101). -/
  | step
  /-- `DERIVE_NOTE` (spec/41 R103). -/
  | deriveNote
  /-- `FORCE_BIT b` (spec/41 R104). -/
  | forceBit (b : Bool)
  /-- `SET_FLIP_PROB p` (spec/41 R105). -/
  | setFlipProb (p : Half)
  /-- `SET_RANGE index` (spec/41 R106). -/
  | setRange (index : Half)
  /-- `SET_SCALE sel` (spec/42 R121). -/
  | setScale (sel : Half)
  /-- `SET_NOTE note` (spec/42 R122). -/
  | setNote (note : Half)
  /-- `GET_CODE` (spec/42 R123). -/
  | getCode
  /-- `GET_SEMITONE` (spec/42 R124). -/
  | getSemitone
  deriving DecidableEq, Repr

/-- The mnemonic of the instruction's row in the opcode map (spec/30 R63). -/
def Instr.mnemonic : Instr → String
  | .configure _ _ _ _ => "CONFIGURE"
  | .start => "START"
  | .stop => "STOP"
  | .setDivisor _ => "SET_DIVISOR"
  | .setNextOutput _ => "SET_NEXT_OUTPUT"
  | .sample => "SAMPLE"
  | .hasTicked => "HAS_TICKED"
  | .ack => "ACK"
  | .readAux => "READ_AUX"
  | .step => "STEP"
  | .deriveNote => "DERIVE_NOTE"
  | .forceBit _ => "FORCE_BIT"
  | .setFlipProb _ => "SET_FLIP_PROB"
  | .setRange _ => "SET_RANGE"
  | .setScale _ => "SET_SCALE"
  | .setNote _ => "SET_NOTE"
  | .getCode => "GET_CODE"
  | .getSemitone => "GET_SEMITONE"

/-- Whether the instruction is one of the seventeen issued through the command port (spec/00 R2). -/
def Instr.isCommand : Instr → Bool
  | .sample => false
  | .configure _ _ _ _ | .start | .stop | .setDivisor _ | .setNextOutput _ | .hasTicked | .ack | .readAux
  | .step | .deriveNote | .forceBit _ | .setFlipProb _ | .setRange _ | .setScale _ | .setNote _ | .getCode
  | .getSemitone => true

end Sys2Proof
end

