-- ==== Sys2Proof/Config.lean ====
section
/-!
DEFINITION. What an implementation fixes (the parameters of spec/00 R6, as one plain record), the reset
values (spec/10 R35), the illustrative configuration P0 of spec/95, and the free values: constants without a
body, about which nothing can be proved.
-/

namespace Sys2Proof

/-- The reset values the spec chose, as a record whose defaults are the table, so that a claim can quantify
over others (spec/10 R35, D7, U17). `tickFlag`, `configured`, `running` and `fault` are not here: 0 is forced
or stated apart from the table (spec/10 R35, spec/70 R170); `rangeDivisor` follows `rangeIndex`. -/
structure ResetValues where
  lastSample : Sample := 0
  edgeCounter : Half := 0
  divisor : Half := 1
  bufferedOutput : Code := 0
  cfgPol : Polarity := .hiToLo
  hystLow : Sample := 0
  hystHigh : Sample := 0
  rateHz : Half := 0
  auxSample : Sample := 0
  /-- The parameter `SEED`. -/
  reg : Half := 0
  flipNum : Half := 0
  rangeIndex : BitVec 4 := 0
  scaleSel : Half := 0
  octave : Half := 0
  semitone : BitVec 4 := 0
  deriving DecidableEq, Repr

/-- The parameters of the block (spec/00 R6). `RES` is decided 12 (Word.lean) and `HAS_DIVISOR` true
(spec/00 R4), so neither is a field. Constraints: `Config.Valid` in Machine/Tables.lean. -/
structure Config where
  /-- `HAS_AUX`. -/
  hasAux : Bool
  /-- `CLK_CHANNEL`, an opaque integer. -/
  clkChannel : Int
  /-- `AUX_CHANNEL`, used only when `HAS_AUX`. -/
  auxChannel : Int
  /-- The rates `RateOK` accepts besides 500 to 4000 Hz, as inclusive intervals; rate 0 is never accepted,
  whatever stands here (spec/00 R6, D16; log entry 12). -/
  extraRates : List (Nat × Nat)
  /-- `FLIP_DENOM`. -/
  flipDenom : Nat
  /-- `DIVISOR_TABLE`: entry k for a span of k+1 octaves (spec/20 R41). -/
  divisorTable : Vector Half 10
  /-- `SCALE_ROM`; its length is `NUM_SCALES` (spec/20 R42). -/
  scaleRom : List (Vector (BitVec 4) 8)
  /-- `VLT_STEPS`. -/
  vltSteps : Nat
  /-- `CODE_MAX`. -/
  codeMax : Int
  /-- `CODE_RANGE`. -/
  codeRange : Int
  /-- The reset values; the defaults are the table of spec/10 R35. -/
  resetValues : ResetValues := {}
  deriving DecidableEq, Repr

/-- P0, the illustrative configuration of spec/95 section 0. It is the spec's own example and no claim about
the original; State.reset uses it (DESIGN CHOICE, log entry 2), statements hold for every configuration. -/
def Config.p0 : Config where
  hasAux := false
  clkChannel := 0
  auxChannel := 1
  extraRates := []
  flipDenom := 256
  divisorTable := #v[170, 85, 57, 43, 34, 28, 24, 21, 19, 17]
  scaleRom := [#v[0, 2, 4, 5, 7, 9, 11, 12], #v[0, 2, 4, 7, 9, 12, 12, 12]]
  vltSteps := 60
  codeMax := 4095
  codeRange := 4095

/-- FREE VALUE. The answer of the Device I/O to the n-th read whose answer no list fixes: any `RES`-bit value,
under no law (spec/20 R44, U1; log entry 4). -/
opaque Config.freeSample : Nat → Sample

/-- FREE VALUE. What the random source puts on `rnd` for the n-th draw that no list fixes (spec/41 R102, U2;
log entry 5). -/
opaque Config.freeDraw : Nat → Half

/-- FREE VALUE. Whether the command goes before the tick at the n-th same-instant arrival that the spec does
not order (spec/20 R57, U8; log entry 6). -/
opaque Config.freeOrder : Nat → Bool

end Sys2Proof
end

