-- ==== Sys2Proof/Machine/Tables.lean ====
section
/-!
DEFINITION. The parameters of the block read as tables and predicates: `RateOK`, the three read-only tables
(spec/20 R41 to R43), the construction of the voltage lookup table (spec/42 R132, R133), and the constraints
a configuration meets (spec/00 R6).
-/

namespace Sys2Proof

/-- `RateOK` (spec/00 R6): never 0, always 500 to 4000 Hz, otherwise as the block's parameter says. -/
def Config.rateOK (c : Config) (r : Half) : Bool :=
  r != 0 && ((500 ≤ r.toNat && r.toNat ≤ 4000) ||
    c.extraRates.any fun p => p.1 ≤ r.toNat && r.toNat ≤ p.2)

/-- `NUM_SCALES` (spec/00 R6). -/
def Config.numScales (c : Config) : Nat := c.scaleRom.length

/-- `RomRead(DIVTAB, k)`; there is an entry exactly for 0..9 (spec/20 R41). -/
def Config.romDivtab (c : Config) (k : Nat) : Option Half := c.divisorTable[k]?

/-- The table `SCALE_ROM[s]` whose entries `RomRead(SCALE, (s, j))` reads (spec/20 R42). -/
def Config.romScale (c : Config) (s : Nat) : Option (Vector (BitVec 4) 8) := c.scaleRom[s]?

/-- `round(CODE_MAX - CODE_RANGE * i / VLT_STEPS)`, an exact half going up (spec/42 R132, R133). -/
def Config.vltValue (c : Config) (i : Nat) : Int :=
  (2 * (c.codeMax * c.vltSteps - c.codeRange * i) + c.vltSteps) / (2 * c.vltSteps)

/-- `RomRead(VLT, i)` for `i` in 0..VLT_STEPS (spec/20 R43); the table is computed from its formula (log
entry 10), and GET_CODE asks for no other index. -/
def Config.romVlt (c : Config) (i : Nat) : Code := BitVec.ofInt 12 (c.vltValue i)

/-- What every stored scale table satisfies (spec/20 R42). -/
abbrev ScaleTableOk (t : Vector (BitVec 4) 8) : Prop :=
  t.toList.Pairwise (· ≤ ·) ∧ (∀ x ∈ t.toList, x ≤ 12) ∧ t[7] = 12

/-- The reset values meet the register ranges of spec/10 R34 (and R26). -/
abbrev ResetValues.Legal (r : ResetValues) (c : Config) : Prop :=
  r.edgeCounter < r.divisor ∧ r.flipNum.toNat < c.flipDenom ∧ r.rangeIndex ≤ 9 ∧
    r.scaleSel.toNat ≤ c.numScales ∧ r.octave ≤ 5462 ∧ r.semitone ≤ 11

/-- The constraints on the parameters (spec/00 R6). -/
def Config.Valid (c : Config) : Prop :=
  (2 ≤ c.flipDenom ∧ c.flipDenom ≤ 65536) ∧
  (∀ d ∈ c.divisorTable.toList, d ≠ 0) ∧
  (c.numScales ≤ 65535 ∧ ∀ t ∈ c.scaleRom, ScaleTableOk t) ∧
  (1 ≤ c.vltSteps ∧ c.vltSteps ≤ 65535 ∧ c.vltSteps ≤ c.codeRange.natAbs) ∧
  (∀ i < c.vltSteps + 1, 0 ≤ c.vltValue i ∧ c.vltValue i < 2 ^ RES) ∧
  (c.hasAux = true → c.auxChannel ≠ c.clkChannel) ∧
  c.resetValues.Legal c

end Sys2Proof
end

