-- ==== Sys2Proof/Machine/State.lean ====
section
/-!
DEFINITION. The state of RandomSeq CORE: every register of spec/10 R11 to R29 under its own name, and the
model's own fields (configuration, pending port events, environment answers, record of port traffic); the
reasons a step can stop; and the state right after reset (spec/10 R35, spec/70 R170).
-/

namespace Sys2Proof.Machine

/-- The causes of a ConfigurationError (spec/60 R141). Codes 9 to 15 are never raised and have no constructor
(U10). -/
inductive Cause where
  | rate
  | divisorZero
  | rangeIndex
  | scaleIndex
  | flipRange
  | valueRange
  | sequence
  | illegalCmd
  deriving DecidableEq, Repr

/-- The status field of a response (spec/30 R67). The other codes are never produced (U10). -/
inductive Status where
  | ok
  | okClamped
  | refused
  | fault
  deriving DecidableEq, Repr

/-- A response: status and 16-bit data (spec/30 R66). -/
structure Response where
  status : Status
  data : Half
  deriving DecidableEq, Repr

/-- One action on an output port, or one exchange with the Device I/O or the random source (spec/30 R59,
R69, spec/60 R154). -/
inductive PortEvent where
  /-- `rsp`: the response of a command. -/
  | rsp (r : Response)
  /-- `timer_ctl.configure(rate)`. -/
  | timerConfigure (rate : Half)
  /-- `timer_ctl.start()`. -/
  | timerStart
  /-- `timer_ctl.stop()`. -/
  | timerStop
  /-- `IoRead(channel)` and the sample it returned. -/
  | ioRead (channel : Int) (v : Sample)
  /-- `IoWrite(code)`. -/
  | ioWrite (code : Code)
  /-- `Draw(FLIP_DENOM)` and the value it returned. -/
  | draw (r : Nat)
  deriving DecidableEq, Repr

/-- One event at an input port: a word on `cmd` or `tick`, or the `reset` input asserted (spec/30 R59). -/
inductive Strobe where
  | port (p : PortWord)
  | reset
  deriving DecidableEq, Repr

/-- What arrives next: one event, or a command and a tick in the same instant (spec/20 R57). -/
inductive Arrival where
  | one (e : Strobe)
  | together (w : CmdWord)
  deriving DecidableEq, Repr

/-- Why the machine stops. A ConfigurationError is no fault in this sense: it is a next state with `fault` set
(spec/60 R143). Both reasons need a state that breaks the invariants of spec/10 R34 or a configuration that
breaks spec/00 R6; no run of a valid block meets one (log entry 9). -/
inductive Fault where
  /-- Raised by SET_NOTE when `scaleSel` names no stored table or the scan finds no entry in the table it
  names (spec/20 R53, spec/42 R122). Safe: the spec says the scan never leaves the table. -/
  | scanOutsideScaleTable
  /-- Raised by DERIVE_NOTE when `rangeDivisor` is 0 (spec/42 R135). Safe: the spec says it cannot be. -/
  | divideByZero
  deriving DecidableEq, Repr

/-- Why an instruction has no meaning. -/
inductive Refusal where
  /-- Raised by an arm of `exec` whose instruction has no meaning yet; no arm is left that does. Safe. -/
  | notModelled (mnemonic : String)
  deriving DecidableEq, Repr

/-- The state of the block. -/
structure State where
  /-- The clock sample of the most recent SAMPLE (spec/10 R11). -/
  lastSample : Sample
  /-- Qualifying edges since the last trigger or SET_DIVISOR (spec/10 R12). -/
  edgeCounter : Half
  /-- Edges per trigger (spec/10 R13). -/
  divisor : Half
  /-- The code the next trigger writes (spec/10 R14). -/
  bufferedOutput : Code
  /-- The one-shot event flag (spec/10 R15). -/
  tickFlag : Bool
  /-- Edge polarity (spec/10 R16). -/
  cfgPol : Polarity
  /-- Low threshold (spec/10 R17). -/
  hystLow : Sample
  /-- High threshold (spec/10 R17). -/
  hystHigh : Sample
  /-- Sample rate of the last accepted CONFIGURE (spec/10 R18). -/
  rateHz : Half
  /-- A CONFIGURE has been accepted (spec/10 R19). -/
  configured : Bool
  /-- Periodic sampling is enabled (spec/10 R20). -/
  running : Bool
  /-- The auxiliary sample of the most recent SAMPLE; stays at its reset value without HAS_AUX (spec/10 R21). -/
  auxSample : Sample
  /-- The shift register (spec/10 R22). -/
  reg : Half
  /-- Numerator of the flip probability (spec/10 R23). -/
  flipNum : Half
  /-- Selected octave span (spec/10 R24). -/
  rangeIndex : BitVec 4
  /-- The divisor of that span (spec/10 R24). -/
  rangeDivisor : Half
  /-- Active scale, 0 chromatic (spec/10 R25). -/
  scaleSel : Half
  /-- Octave resolved by the last SET_NOTE (spec/10 R26). -/
  octave : Half
  /-- Semitone resolved by the last SET_NOTE (spec/10 R27). -/
  semitone : BitVec 4
  /-- A ConfigurationError has happened; sticky (spec/10 R28). -/
  fault : Bool
  /-- Its cause; none is code 0 (spec/10 R28, spec/60 R141). -/
  faultCause : Option Cause
  /-- The last code written to the analog output, if any (spec/10 R29). -/
  dacLast : Option Code
  /-- All codes written since reset, oldest first (spec/10 R29). -/
  outHistory : List Code
  /-- MODEL'S OWN: the parameters (spec/00 R6); no step changes them (log entry 2). -/
  cfg : Config
  /-- MODEL'S OWN: the port events that come next, in the total order of spec/20 R48 (log entry 1). -/
  arrivals : List Arrival
  /-- MODEL'S OWN: answers to the next reads, where the environment has fixed them (spec/30 R71; log entry 4). -/
  sampleAnswers : List Sample
  /-- MODEL'S OWN: answers to the next draws, where the environment has fixed them (spec/30 R71; log entry 5). -/
  drawAnswers : List Half
  /-- MODEL'S OWN: reads made so far, the argument of the next free sample. -/
  reads : Nat
  /-- MODEL'S OWN: draws made so far, the argument of the next free draw. -/
  draws : Nat
  /-- MODEL'S OWN: same-instant arrivals ordered so far, the argument of the next free order. -/
  ties : Nat
  /-- MODEL'S OWN: what crossed the ports since reset, oldest first (log entry 7). -/
  trace : List PortEvent
  deriving DecidableEq, Repr

/-- What every step of the block answers. -/
abbrev Answer := Host.Outcome State Fault Refusal

/-- The block with parameters `c` right after reset, nothing pending at its ports (spec/10 R35, spec/70 R170). -/
def State.resetWith (c : Config) : State where
  lastSample := c.resetValues.lastSample
  edgeCounter := c.resetValues.edgeCounter
  divisor := c.resetValues.divisor
  bufferedOutput := c.resetValues.bufferedOutput
  tickFlag := false
  cfgPol := c.resetValues.cfgPol
  hystLow := c.resetValues.hystLow
  hystHigh := c.resetValues.hystHigh
  rateHz := c.resetValues.rateHz
  configured := false
  running := false
  auxSample := c.resetValues.auxSample
  reg := c.resetValues.reg
  flipNum := c.resetValues.flipNum
  rangeIndex := c.resetValues.rangeIndex
  rangeDivisor := (c.romDivtab c.resetValues.rangeIndex.toNat).getD 0
  scaleSel := c.resetValues.scaleSel
  octave := c.resetValues.octave
  semitone := c.resetValues.semitone
  fault := false
  faultCause := none
  dacLast := none
  outHistory := []
  cfg := c
  arrivals := []
  sampleAnswers := []
  drawAnswers := []
  reads := 0
  draws := 0
  ties := 0
  trace := []

/-- The machine right after reset, with the illustrative parameters P0 (DESIGN CHOICE, log entry 2). -/
def State.reset : State := State.resetWith Config.p0

end Sys2Proof.Machine
end

