-- ==== Sys2Proof/Machine/Ops.lean ====
section
/-!
DEFINITION. The named operations over the state: the codes on the response port, the record of port
traffic, responding, raising a ConfigurationError, the common prologue of a command, the exchanges with
the Device I/O and the random source, and the reset strobe.
-/

namespace Sys2Proof.Machine

/-- The four status bits (spec/30 R67). -/
def Status.code : Status → BitVec 4
  | .ok => 0x0
  | .okClamped => 0x1
  | .refused => 0xE
  | .fault => 0xF

/-- The 32-bit response word: status 31:28, zero 27:16, data 15:0 (spec/30 R66). -/
def Response.word (r : Response) : RspWord := r.status.code ++ (0 : BitVec 12) ++ r.data

/-- The cause codes of spec/60 R141. -/
def Cause.code : Cause → BitVec 4
  | .rate => 1
  | .divisorZero => 2
  | .rangeIndex => 3
  | .scaleIndex => 4
  | .flipRange => 5
  | .valueRange => 6
  | .sequence => 7
  | .illegalCmd => 8

/-- The 4-bit register `faultCause`: 0 while no fault is recorded (spec/10 R28, spec/60 R141). -/
def causeCode : Option Cause → BitVec 4
  | none => 0
  | some c => c.code

/-- Records one action on the ports (log entry 7). -/
def State.emit (e : PortEvent) (s : State) : State := { s with trace := s.trace ++ [e] }

/-- `respond(status, data)` (spec/00 R8, spec/30 R66). -/
def State.respond (st : Status) (data : Half) (s : State) : State := s.emit (.rsp ⟨st, data⟩)

/-- The end of a command that returns nothing (spec/40 R80). -/
def State.done (s : State) : Answer := .next (s.respond .ok 0)

/-- The end of a command that returns a value (spec/30 R66). -/
def State.answer (data : Half) (s : State) : Answer := .next (s.respond .ok data)

/-- `raise ConfigurationError(c)`: the one operation that takes the exception (spec/60 R143). There is no
return from it but reset (spec/60 R145). -/
def State.raise (c : Cause) (s : State) : State :=
  ({ s with fault := true, faultCause := some c, running := false }.emit .timerStop).respond .fault
    (c.code.setWidth 16)

/-- A command in the faulted state: answered REFUSED, nothing else (spec/60 R144). -/
def State.refuse (s : State) : State := s.respond .refused ((causeCode s.faultCause).setWidth 16)

/-- The common prologue of every command: refused while faulted, else its own rule (spec/30 R64). -/
def State.command (s : State) (body : State → Answer) : Answer :=
  if s.fault then .next s.refuse else body s

/-- A word that is no instruction (spec/30 R64, R65). -/
def State.rejectWord (s : State) : State := if s.fault then s.refuse else s.raise .illegalCmd

/-- The sample the next `IoRead` returns: the answer the environment has fixed, else a free value
(spec/20 R44, log entry 4). -/
def State.nextSample (s : State) : Sample :=
  match s.sampleAnswers with
  | v :: _ => v
  | [] => Config.freeSample s.reads

/-- `IoRead(ch)` has been made (spec/20 R44). -/
def State.afterRead (ch : Int) (s : State) : State :=
  { s with sampleAnswers := s.sampleAnswers.tail, reads := s.reads + 1 }.emit (.ioRead ch s.nextSample)

/-- `IoWrite(code)` (spec/20 R45). -/
def State.ioWrite (code : Code) (s : State) : State :=
  { s with outHistory := s.outHistory ++ [code], dacLast := some code }.emit (.ioWrite code)

/-- The value of the next `Draw(FLIP_DENOM)`, in 0..FLIP_DENOM-1: the answer the environment has fixed, else
a free value (spec/41 R102, spec/30 R69, log entry 5). -/
def State.nextDraw (s : State) : Nat :=
  (match s.drawAnswers with
    | r :: _ => r
    | [] => Config.freeDraw s.draws).toNat % s.cfg.flipDenom

/-- `Draw(FLIP_DENOM)` has been taken (spec/41 R102). -/
def State.afterDraw (s : State) : State :=
  { s with drawAnswers := s.drawAnswers.tail, draws := s.draws + 1 }.emit (.draw s.nextDraw)

/-- The `reset` input is asserted: every register at its reset value, whatever the state was (spec/70 R170).
What belongs to the environment (pending events, answers, counters of the free values) and the parameters
stay (spec/70 R171, log entry 8). -/
def State.resetStrobe (s : State) : State :=
  { State.resetWith s.cfg with
    arrivals := s.arrivals
    sampleAnswers := s.sampleAnswers
    drawAnswers := s.drawAnswers
    reads := s.reads
    draws := s.draws
    ties := s.ties }

/-- The `tick_flag` port: the level of `tickFlag` (spec/30 R59, spec/60 R150). -/
def State.tickFlagPin (s : State) : BitVec 1 := BitVec.ofBool s.tickFlag

end Sys2Proof.Machine
end

