-- ==== Sys2Proof/Machine/Operands.lean ====
section
/-!
DEFINITION. Operand forms: every operand is an unsigned field, unscaled (spec/30 R62); what is left is the
check against `RES` and the narrowing and widening between 16-bit fields and `RES`-bit registers.
-/

namespace Sys2Proof.Machine

/-- The operand is a `RES`-bit value: `v < 2^RES` (spec/40 R81, R85). -/
def fitsRes (v : Half) : Bool := v.toNat < 2 ^ RES

/-- `v[RES-1:0]` (spec/40 R81, R85). -/
def lowRes (v : Half) : BitVec 12 := v.extractLsb' 0 12

/-- `zext_16` of a `RES`-bit value (spec/00 R7). -/
def zextRes (v : BitVec 12) : Half := v.setWidth 16

/-- `zext_16` of a 4-bit value (spec/00 R7). -/
def zextNibble (v : BitVec 4) : Half := v.setWidth 16

/-- `zext_16` of a flag (spec/00 R7). -/
def zextFlag (b : Bool) : Half := (BitVec.ofBool b).setWidth 16

end Sys2Proof.Machine
end

