-- ==== Sys2Proof/Machine/Flags.lean ====
section
/-!
DEFINITION. The status flags. The block has no arithmetic condition codes (spec/10 R31); what sets its event
flag is the edge test and the division of qualifying edges.
-/

namespace Sys2Proof.Machine

/-- `edge(p, s)` with previous sample `p` and new sample `v`: both comparisons strict, unsigned, by polarity
(spec/40 R86). -/
def State.edge (s : State) (p v : Sample) : Bool :=
  match s.cfgPol with
  | .hiToLo => p > s.hystHigh && v < s.hystLow
  | .loToHi => p < s.hystLow && v > s.hystHigh

/-- The trigger: counter to 0, buffered code to the analog output, one-shot flag set (spec/40 R87). -/
def State.trigger (s : State) : State :=
  { { s with edgeCounter := 0 }.ioWrite s.bufferedOutput with tickFlag := true }

/-- A qualifying edge: the counter advances, and triggers when it reaches the divisor (spec/40 R87). -/
def State.countEdge (s : State) : State :=
  if s.edgeCounter.toNat + 1 = s.divisor.toNat then s.trigger
  else { s with edgeCounter := s.edgeCounter + 1 }

end Sys2Proof.Machine
end

