-- ==== Sys2Proof/Machine/ClockEngine.lean ====
section
/-!
DEFINITION. The meanings of the Clock/Timing Engine's instructions (spec/40).
-/

namespace Sys2Proof.Machine

/-- CONFIGURE (spec/40 R81): sequence, then thresholds, then rate are checked (spec/60 R148). -/
def execConfigure (rate : Half) (pol : Polarity) (low high : Half) (s : State) : Answer :=
  s.command fun s =>
    if s.running then .next (s.raise .sequence)
    else if !fitsRes high || !fitsRes low then .next (s.raise .valueRange)
    else if !s.cfg.rateOK rate then .next (s.raise .rate)
    else
      ({ s with
          cfgPol := pol
          hystLow := lowRes low
          hystHigh := lowRes high
          rateHz := rate
          configured := true }.emit (.timerConfigure rate)).done

/-- START (spec/40 R82). -/
def execStart (s : State) : Answer :=
  s.command fun s =>
    if !s.configured then .next (s.raise .sequence)
    else ({ s with running := true }.emit .timerStart).done

/-- STOP (spec/40 R83). -/
def execStop (s : State) : Answer :=
  s.command fun s => ({ s with running := false }.emit .timerStop).done

/-- SET_DIVISOR (spec/40 R84). -/
def execSetDivisor (n : Half) (s : State) : Answer :=
  s.command fun s =>
    if n = 0 then .next (s.raise .divisorZero)
    else { s with divisor := n, edgeCounter := 0 }.done

/-- SET_NEXT_OUTPUT (spec/40 R85). -/
def execSetNextOutput (code : Half) (s : State) : Answer :=
  s.command fun s =>
    if !fitsRes code then .next (s.raise .valueRange)
    else { s with bufferedOutput := lowRes code }.done

/-- The clock half of SAMPLE: one read of the clock channel, the edge test against the previous sample, the
division, and `lastSample` (spec/40 R87). -/
def State.sampleClock (s : State) : State :=
  let v := s.nextSample
  let read := s.afterRead s.cfg.clkChannel
  { (if s.edge s.lastSample v then read.countEdge else read) with lastSample := v }

/-- The auxiliary half of SAMPLE, after any dispatch (spec/40 R87, D25). -/
def State.sampleAux (s : State) : State :=
  if s.cfg.hasAux then { s.afterRead s.cfg.auxChannel with auxSample := s.nextSample } else s

/-- SAMPLE, fired by a tick: performed only when running and not faulted, else dropped (spec/40 R87, spec/60
R149). It has no response. -/
def execSample (s : State) : Answer :=
  .next (if s.running && !s.fault then s.sampleClock.sampleAux else s)

/-- HAS_TICKED (spec/40 R88). -/
def execHasTicked (s : State) : Answer :=
  s.command fun s => s.answer (zextFlag s.tickFlag)

/-- ACK (spec/40 R89). -/
def execAck (s : State) : Answer :=
  s.command fun s => { s with tickFlag := false }.done

/-- READ_AUX (spec/40 R90); an illegal word when HAS_AUX is false (spec/30 R64, R65 c). -/
def execReadAux (s : State) : Answer :=
  s.command fun s =>
    if s.cfg.hasAux then s.answer (zextRes s.auxSample) else .next (s.raise .illegalCmd)

end Sys2Proof.Machine
end

