-- ==== Sys2Proof/Machine/Quantizer.lean ====
section
/-!
DEFINITION. The meanings of the Scale Quantizer's instructions (spec/42).
-/

namespace Sys2Proof.Machine

/-- SET_SCALE (spec/42 R121). -/
def execSetScale (sel : Half) (s : State) : Answer :=
  s.command fun s =>
    if sel.toNat > s.cfg.numScales then .next (s.raise .scaleIndex)
    else { s with scaleSel := sel }.done

/-- The first entry of the table that is at least `raw`, scanning upwards (spec/42 R122). -/
def snapUp (t : Vector (BitVec 4) 8) (raw : Nat) : Option Nat :=
  (t.toList.find? fun e => raw ≤ e.toNat).map BitVec.toNat

/-- The octave and semitone of a note under the active scale: snap up, and the sentinel 12 becomes semitone 0
of the next octave (spec/42 R122). No answer: the scan would leave the table (spec/20 R53). -/
def State.resolveNote (s : State) (note : Nat) : Option (Nat × Nat) :=
  let o := note / 12
  let raw := note % 12
  if s.scaleSel = 0 then some (o, raw)
  else
    match (s.cfg.romScale (s.scaleSel.toNat - 1)).bind (snapUp · raw) with
    | none => none
    | some m => if m = 12 then some (o + 1, 0) else some (o, m)

/-- SET_NOTE (spec/42 R122). -/
def execSetNote (note : Half) (s : State) : Answer :=
  s.command fun s =>
    match s.resolveNote note.toNat with
    | none => .fault .scanOutsideScaleTable
    | some (o, m) => { s with octave := BitVec.ofNat 16 o, semitone := BitVec.ofNat 4 m }.done

/-- `index = octave*12 + semitone`, not truncated (spec/42 R123). -/
def State.vltIndex (s : State) : Nat := s.octave.toNat * 12 + s.semitone.toNat

/-- GET_CODE (spec/42 R123, spec/60 R146): past the table the last entry, and the clamp is reported. -/
def execGetCode (s : State) : Answer :=
  s.command fun s =>
    if s.vltIndex > s.cfg.vltSteps then
      .next (s.respond .okClamped (zextRes (s.cfg.romVlt s.cfg.vltSteps)))
    else s.answer (zextRes (s.cfg.romVlt s.vltIndex))

/-- GET_SEMITONE (spec/42 R124). -/
def execGetSemitone (s : State) : Answer :=
  s.command fun s => s.answer (zextNibble s.semitone)

end Sys2Proof.Machine
end

