-- ==== Sys2Proof/Machine/Sequencer.lean ====
section
/-!
DEFINITION. The meanings of the Stochastic Sequencer's instructions (spec/41).
-/

namespace Sys2Proof.Machine

/-- `reg[14:0] ‖ (reg[15] xor flip)` (spec/41 R101). -/
def rotateWithFlip (reg : Half) (flip : Bool) : Half :=
  reg.extractLsb' 0 15 ++ BitVec.ofBool (reg.getLsbD 15 ^^ flip)

/-- The fixed-point transform of the low byte by the range divisor, on natural numbers, nothing truncated
(spec/41 R103). -/
def noteOf (b divisor : Nat) : Nat :=
  let t1 := b * 2 ^ 3 + 256
  let t2 := t1 * 2 ^ 5
  let t3 := t2 / divisor
  let t4 := t3 + 16
  t4 / 2 ^ 5

/-- STEP (spec/41 R101): the draw is taken in every case and flips the incoming bit when below `flipNum`. -/
def execStep (s : State) : Answer :=
  s.command fun s =>
    { s.afterDraw with reg := rotateWithFlip s.reg (s.nextDraw < s.flipNum.toNat) }.done

/-- DERIVE_NOTE (spec/41 R103). A zero divisor, which no run meets, is a fault (spec/42 R135, log entry 9). -/
def execDeriveNote (s : State) : Answer :=
  s.command fun s =>
    if s.rangeDivisor = 0 then .fault .divideByZero
    else s.answer (BitVec.ofNat 16 (noteOf (s.reg.extractLsb' 0 8).toNat s.rangeDivisor.toNat))

/-- FORCE_BIT (spec/41 R104): bits 15:1 stay. -/
def execForceBit (b : Bool) (s : State) : Answer :=
  s.command fun s => { s with reg := s.reg.extractLsb' 1 15 ++ BitVec.ofBool b }.done

/-- SET_FLIP_PROB (spec/41 R105). -/
def execSetFlipProb (p : Half) (s : State) : Answer :=
  s.command fun s =>
    if p.toNat ≥ s.cfg.flipDenom then .next (s.raise .flipRange)
    else { s with flipNum := p }.done

/-- SET_RANGE (spec/41 R106): index bound, then the zero entry. -/
def execSetRange (index : Half) (s : State) : Answer :=
  s.command fun s =>
    match (if index.toNat > 9 then none else s.cfg.romDivtab index.toNat) with
    | none => .next (s.raise .rangeIndex)
    | some d =>
      if d = 0 then .next (s.raise .rangeIndex)
      else { s with rangeIndex := index.extractLsb' 0 4, rangeDivisor := d }.done

end Sys2Proof.Machine
end

