-- ==== Sys2Proof/Machine/Dispatch.lean ====
section
/-!
DEFINITION. The dispatch of an instruction to its meaning, one arm per row of the opcode map.
-/

namespace Sys2Proof.Machine

def exec (i : Instr) (s : State) : Host.Outcome State Fault Refusal :=
  match i with
  -- Clock/Timing Engine
  | .configure rate pol low high => Sys2Proof.Machine.execConfigure rate pol low high s
  | .start => Sys2Proof.Machine.execStart s
  | .stop => Sys2Proof.Machine.execStop s
  | .setDivisor n => Sys2Proof.Machine.execSetDivisor n s
  | .setNextOutput code => Sys2Proof.Machine.execSetNextOutput code s
  | .sample => Sys2Proof.Machine.execSample s
  | .hasTicked => Sys2Proof.Machine.execHasTicked s
  | .ack => Sys2Proof.Machine.execAck s
  | .readAux => Sys2Proof.Machine.execReadAux s
  -- Stochastic Sequencer
  | .step => Sys2Proof.Machine.execStep s
  | .deriveNote => Sys2Proof.Machine.execDeriveNote s
  | .forceBit b => Sys2Proof.Machine.execForceBit b s
  | .setFlipProb p => Sys2Proof.Machine.execSetFlipProb p s
  | .setRange index => Sys2Proof.Machine.execSetRange index s
  -- Scale Quantizer
  | .setScale sel => Sys2Proof.Machine.execSetScale sel s
  | .setNote note => Sys2Proof.Machine.execSetNote note s
  | .getCode => Sys2Proof.Machine.execGetCode s
  | .getSemitone => Sys2Proof.Machine.execGetSemitone s

end Sys2Proof.Machine
end

