-- ==== Sys2Proof/WellFormed.lean ====
section
/-!
DEFINITION. Which instructions exist on a block. Operand fields have the width of their encoding, so every
operand value is encodable, and range checks belong to the instruction (spec/30 R62). The one check left is
that `READ_AUX` exists only when `HAS_AUX` (spec/30 R63, R65 c).
-/

namespace Sys2Proof

/-- The instruction exists on a block whose `HAS_AUX` is the argument. -/
def Instr.wellFormed (hasAux : Bool) : Instr → Bool
  | .readAux => hasAux
  | .configure _ _ _ _ | .start | .stop | .setDivisor _ | .setNextOutput _ | .sample | .hasTicked | .ack
  | .step | .deriveNote | .forceBit _ | .setFlipProb _ | .setRange _ | .setScale _ | .setNote _ | .getCode
  | .getSemitone => true

end Sys2Proof
end

