-- ==== Sys2Proof/Decode.lean ====
section
/-!
DEFINITION. The decoder of the `cmd` and `tick` ports, total on every word, then the encoder, both written
from the four formats and the opcode map of spec/30 R60 to R63 and R68. No answer means: no row matches.
-/

namespace Sys2Proof

/-- `pol = cmd[48]` as a polarity (spec/10 R16, spec/30 R62). -/
def Polarity.ofBit (b : BitVec 1) : Polarity := if b = 1 then .loToHi else .hiToLo

/-- The encoding of a polarity (spec/10 R16). -/
def Polarity.bit : Polarity → BitVec 1
  | .hiToLo => 0
  | .loToHi => 1

/-- Format N (spec/30 R61): bits 55:0 zero. -/
def decodeN (w : CmdWord) (i : Instr) : Option Instr :=
  if w.extractLsb' 0 56 = 0 then some i else none

/-- Format B (spec/30 R61): bits 55:1 zero, `b` in bit 0. -/
def decodeB (w : CmdWord) (mk : Bool → Instr) : Option Instr :=
  if w.extractLsb' 1 55 = 0 then some (mk (w.getLsbD 0)) else none

/-- Format I (spec/30 R61): bits 55:16 zero, `imm` in bits 15:0. -/
def decodeI (w : CmdWord) (mk : Half → Instr) : Option Instr :=
  if w.extractLsb' 16 40 = 0 then some (mk (w.extractLsb' 0 16)) else none

/-- Format C (spec/30 R61): bits 55:49 zero, `pol` 48, `rate` 47:32, `high` 31:16, `low` 15:0. -/
def decodeC (w : CmdWord) (mk : Half → Polarity → Half → Half → Instr) : Option Instr :=
  if w.extractLsb' 49 7 = 0 then
    some (mk (w.extractLsb' 32 16) (Polarity.ofBit (w.extractLsb' 48 1)) (w.extractLsb' 0 16)
      (w.extractLsb' 16 16))
  else none

/-- The opcode field, bits 63:56 (spec/30 R60). -/
def cmdOp (w : CmdWord) : BitVec 8 := w.extractLsb' 56 8

/-- The instruction a command word is, if a row of spec/30 R63 matches it. -/
def decodeCmd (w : CmdWord) : Option Instr :=
  match (cmdOp w).toNat with
  | 0x10 => decodeC w .configure
  | 0x11 => decodeN w .start
  | 0x12 => decodeN w .stop
  | 0x13 => decodeI w .setDivisor
  | 0x14 => decodeI w .setNextOutput
  | 0x15 => decodeN w .hasTicked
  | 0x16 => decodeN w .ack
  | 0x17 => decodeN w .readAux
  | 0x20 => decodeN w .step
  | 0x21 => decodeN w .deriveNote
  | 0x22 => decodeB w .forceBit
  | 0x23 => decodeI w .setFlipProb
  | 0x24 => decodeI w .setRange
  | 0x30 => decodeI w .setScale
  | 0x31 => decodeI w .setNote
  | 0x32 => decodeN w .getCode
  | 0x33 => decodeN w .getSemitone
  | _ => none

/-- The instruction on a port: a command word, or a 1 on `tick`, which is `SAMPLE` (spec/30 R68). A 0 on
`tick` is no instruction. -/
def decodePort : PortWord → Option Instr
  | .cmd w => decodeCmd w
  | .tick b => if b = 1 then some .sample else none

/-- A word of format N. -/
def encodeN (op : BitVec 8) : CmdWord := op ++ (0 : BitVec 56)

/-- A word of format B. -/
def encodeB (op : BitVec 8) (b : Bool) : CmdWord := op ++ (0 : BitVec 55) ++ BitVec.ofBool b

/-- A word of format I. -/
def encodeI (op : BitVec 8) (imm : Half) : CmdWord := op ++ (0 : BitVec 40) ++ imm

/-- A word of format C. -/
def encodeC (op : BitVec 8) (rate : Half) (pol : Polarity) (low high : Half) : CmdWord :=
  op ++ (0 : BitVec 7) ++ pol.bit ++ rate ++ high ++ low

/-- What stands on the port that carries the instruction (spec/30 R61 to R63, R68). -/
def encode : Instr → PortWord
  | .configure rate pol low high => .cmd (encodeC 0x10 rate pol low high)
  | .start => .cmd (encodeN 0x11)
  | .stop => .cmd (encodeN 0x12)
  | .setDivisor n => .cmd (encodeI 0x13 n)
  | .setNextOutput code => .cmd (encodeI 0x14 code)
  | .sample => .tick 1
  | .hasTicked => .cmd (encodeN 0x15)
  | .ack => .cmd (encodeN 0x16)
  | .readAux => .cmd (encodeN 0x17)
  | .step => .cmd (encodeN 0x20)
  | .deriveNote => .cmd (encodeN 0x21)
  | .forceBit b => .cmd (encodeB 0x22 b)
  | .setFlipProb p => .cmd (encodeI 0x23 p)
  | .setRange index => .cmd (encodeI 0x24 index)
  | .setScale sel => .cmd (encodeI 0x30 sel)
  | .setNote note => .cmd (encodeI 0x31 note)
  | .getCode => .cmd (encodeN 0x32)
  | .getSemitone => .cmd (encodeN 0x33)

/-- A row of the opcode map: a word `w` is the instruction when `w and mask = pattern` (spec/30 R63). -/
structure OpcodeRow where
  mnemonic : String
  mask : CmdWord
  pattern : CmdWord
  deriving DecidableEq, Repr

/-- The word lies in the row. -/
def OpcodeRow.accepts (r : OpcodeRow) (w : CmdWord) : Bool := w &&& r.mask == r.pattern

/-- The seventeen command rows as spec/30 R63 and spec/opcode_table.json print them. The decoder does not
use them: that it agrees with them is a statement. -/
def opcodeTable : List OpcodeRow :=
  [ ⟨"CONFIGURE", 0xFFFE000000000000, 0x1000000000000000⟩,
    ⟨"START", 0xFFFFFFFFFFFFFFFF, 0x1100000000000000⟩,
    ⟨"STOP", 0xFFFFFFFFFFFFFFFF, 0x1200000000000000⟩,
    ⟨"SET_DIVISOR", 0xFFFFFFFFFFFF0000, 0x1300000000000000⟩,
    ⟨"SET_NEXT_OUTPUT", 0xFFFFFFFFFFFF0000, 0x1400000000000000⟩,
    ⟨"HAS_TICKED", 0xFFFFFFFFFFFFFFFF, 0x1500000000000000⟩,
    ⟨"ACK", 0xFFFFFFFFFFFFFFFF, 0x1600000000000000⟩,
    ⟨"READ_AUX", 0xFFFFFFFFFFFFFFFF, 0x1700000000000000⟩,
    ⟨"STEP", 0xFFFFFFFFFFFFFFFF, 0x2000000000000000⟩,
    ⟨"DERIVE_NOTE", 0xFFFFFFFFFFFFFFFF, 0x2100000000000000⟩,
    ⟨"FORCE_BIT", 0xFFFFFFFFFFFFFFFE, 0x2200000000000000⟩,
    ⟨"SET_FLIP_PROB", 0xFFFFFFFFFFFF0000, 0x2300000000000000⟩,
    ⟨"SET_RANGE", 0xFFFFFFFFFFFF0000, 0x2400000000000000⟩,
    ⟨"SET_SCALE", 0xFFFFFFFFFFFF0000, 0x3000000000000000⟩,
    ⟨"SET_NOTE", 0xFFFFFFFFFFFF0000, 0x3100000000000000⟩,
    ⟨"GET_CODE", 0xFFFFFFFFFFFFFFFF, 0x3200000000000000⟩,
    ⟨"GET_SEMITONE", 0xFFFFFFFFFFFFFFFF, 0x3300000000000000⟩ ]

/-- The port word of a row of spec/opcode_table.json whose bits are `w`: the rows of 64 bits stand on `cmd`,
the row of one bit (one byte when counted in whole bytes) on `tick` (spec/30 R60, R68; log entry 1). -/
def tablePortWord (nbits w : Nat) : Option PortWord :=
  if nbits = 64 then some (.cmd (BitVec.ofNat 64 w))
  else if nbits ≤ 8 ∧ w < 2 then some (.tick (BitVec.ofNat 1 w))
  else none

/-- The instruction the decoder reads from a row's bits, numbered as spec/opcode_table.json numbers them. -/
def decodeTableWord (nbits w : Nat) : Option Instr :=
  (tablePortWord nbits w).bind decodePort

end Sys2Proof
end

