-- ==== Sys2Proof/Machine/Fetch.lean ====
section
/-!
DEFINITION. What arrives at the input ports next, in the one total order of steps (spec/20 R47, R48), the
order of a same-instant command and tick (spec/20 R57), and how an arrival turns into an instruction to run.
-/

namespace Sys2Proof.Machine

/-- One expiry of the periodic timer (spec/30 R68). -/
def Strobe.tick : Strobe := .port (.tick 1)

/-- Whether the command of a same-instant arrival goes before the tick: an ACK always does, for any other
command the spec leaves the order open (spec/20 R57, spec/60 R148, log entry 6). -/
def State.commandFirst (w : CmdWord) (s : State) : Bool :=
  decodeCmd w == some .ack || Config.freeOrder s.ties

/-- The next event and the state in which it is served; a same-instant pair is served in two steps. -/
def State.nextEvent (s : State) : Option (Strobe × State) :=
  match s.arrivals with
  | [] => none
  | .one e :: rest => some (e, { s with arrivals := rest })
  | .together w :: rest =>
    if s.commandFirst w then
      some (.port (.cmd w), { s with arrivals := .one Strobe.tick :: rest, ties := s.ties + 1 })
    else
      some (Strobe.tick, { s with arrivals := .one (.port (.cmd w)) :: rest, ties := s.ties + 1 })

/-- What a step has to do: nothing more than reach a state, or run an instruction. -/
inductive Todo where
  | reach (s : State)
  | run (i : Instr) (s : State)

/-- A port word that is no instruction: an illegal command word is rejected (spec/30 R65), a 0 on `tick` is
no event (spec/30 R68). -/
def State.undecoded (p : PortWord) (s : State) : State :=
  match p with
  | .cmd _ => s.rejectWord
  | .tick _ => s

/-- Serves one event (spec/30 R64, R68, spec/70 R170). -/
def serve (e : Strobe) (s : State) : Todo :=
  match e with
  | .reset => .reach s.resetStrobe
  | .port p =>
    match decodePort p with
    | some i => .run i s
    | none => .reach (s.undecoded p)

/-- The next thing to do; with nothing at the ports the block stays as it is (log entry 1). -/
def fetch (s : State) : Todo :=
  match s.nextEvent with
  | none => .reach s
  | some (e, s') => serve e s'

/-- The state with the port word of an opcode-table row as the next arrival (log entry 1). -/
def State.offer (p : Option PortWord) (s : State) : State :=
  match p with
  | none => s
  | some p => { s with arrivals := .one (.port p) :: s.arrivals }

end Sys2Proof.Machine
end

