-- ==== Sys2Proof/Machine/Step.lean ====
section
/-!
DEFINITION. One step of the block: serve the next arrival (spec/20 R48).
-/

namespace Sys2Proof.Machine

/-- One atomic step. -/
def step (s : State) : Host.Outcome State Fault Refusal :=
  match fetch s with
  | .reach t => .next t
  | .run i t => exec i t

/-- The state in which the instruction of an opcode-table row arrives next. The block fetches nothing
(spec/00 R2): the word stands at its port (log entry 1). -/
def State.withFetchWord (s : State) (nbits w : Nat) : State :=
  s.offer (tablePortWord nbits w)

end Sys2Proof.Machine
end

