-- ==== Sys2Proof/Machine/Pseudo.lean ====
section
/-!
DEFINITION. Sequences of instructions and the host's pseudo-instructions (spec/30 R71 to R74). Control flow
exists only in the host (spec/30 R71), so nothing here is used by `step`.
-/

namespace Sys2Proof.Machine

/-- Goes on from a next state; a fault or a refusal ends the sequence. -/
def Answer.andThen (o : Answer) (k : State → Answer) : Answer :=
  match o with
  | .next s => k s
  | .fault r => .fault r
  | .refused r => .refused r

/-- Instructions performed one after the other; a `SAMPLE` in the list is a tick at that point
(spec/20 R48, spec/30 R71). -/
def execAll : List Instr → State → Answer
  | [], s => .next s
  | i :: is, s => Answer.andThen (exec i s) (execAll is)

/-- `LOAD_REG v`: for i = 15 down to 0, `STEP; FORCE_BIT v[i]` (spec/30 R73). -/
def loadReg (v : Half) : List Instr :=
  (List.range 16).reverse.flatMap fun i => [.step, .forceBit (v.getLsbD i)]

/-- `CRITICAL ... END` (spec/30 R74). -/
def critical (body : List Instr) : List Instr := [.stop] ++ body ++ [.start]

/-- The data of the most recent response, which is what a host script binds with `-> name` (spec/30 R71). -/
def State.lastData (s : State) : Half :=
  match s.trace.getLast? with
  | some (.rsp r) => r.data
  | _ => 0

/-- `SERVICE_TICK` (spec/30 R72), with no tick between its commands. -/
def serviceTick (s : State) : Answer :=
  Answer.andThen (exec .hasTicked s) fun s1 =>
    if s1.lastData = 1 then
      Answer.andThen (execAll [.ack, .step, .deriveNote] s1) fun s2 =>
        Answer.andThen (execAll [.setNote s2.lastData, .getCode] s2) fun s3 =>
          exec (.setNextOutput s3.lastData) s3
    else .next s1

end Sys2Proof.Machine
end

