-- ==== Sys2Proof/Safety.lean ====
section
/-!
DEFINITION. What a safe state is (spec/10 R34), and the notions the statements are written in: the registers
of each unit, what a ConfigurationError leaves, and the edges that ticks in a row bring.
-/

namespace Sys2Proof.Machine

/-- The invariants of spec/10 R34 (a) to (i), with the range of `octave` (R26), the value of `faultCause`
without a fault (R28, spec/60 R141) and the constraints on the parameters (spec/00 R6). -/
structure Inv (s : State) : Prop where
  cfg_valid : s.cfg.Valid
  edgeCounter_lt : s.edgeCounter < s.divisor
  divisor_pos : 1 ≤ s.divisor
  rangeIndex_le : s.rangeIndex ≤ 9
  rangeDivisor_eq : s.cfg.romDivtab s.rangeIndex.toNat = some s.rangeDivisor
  rangeDivisor_pos : 1 ≤ s.rangeDivisor
  flipNum_lt : s.flipNum.toNat < s.cfg.flipDenom
  scaleSel_le : s.scaleSel.toNat ≤ s.cfg.numScales
  octave_le : s.octave ≤ 5462
  semitone_le : s.semitone ≤ 11
  fault_stops : s.fault = true → s.running = false
  running_configured : s.running = true → s.configured = true
  history_empty : s.outHistory = [] ↔ s.dacLast = none
  history_last : s.outHistory.getLast? = s.dacLast
  cause_iff : s.fault = true ↔ s.faultCause ≠ none

/-- The state with more events at the end of the record of the ports. -/
def State.logged (es : List PortEvent) (s : State) : State := { s with trace := s.trace ++ es }

/-- The response `respond(OK, data)` as a port event (spec/30 R66, R67). -/
def okRsp (data : Half) : PortEvent := .rsp ⟨.ok, data⟩

/-- What a ConfigurationError with cause `c` leaves, written out (spec/60 R143). -/
def State.withError (c : Cause) (s : State) : State :=
  { s with
    fault := true
    faultCause := some c
    running := false
    trace := s.trace ++ [.timerStop, .rsp ⟨.fault, c.code.setWidth 16⟩] }

/-- The unit an instruction belongs to (spec/30 R63). -/
inductive Part where
  | clock
  | sequencer
  | quantizer
  deriving DecidableEq, Repr

/-- The unit of each instruction: the high nibble of its opcode (spec/30 R63). -/
def partOf : Instr → Part
  | .configure _ _ _ _ | .start | .stop | .setDivisor _ | .setNextOutput _ | .sample | .hasTicked | .ack
  | .readAux => .clock
  | .step | .deriveNote | .forceBit _ | .setFlipProb _ | .setRange _ => .sequencer
  | .setScale _ | .setNote _ | .getCode | .getSemitone => .quantizer

/-- The sequencer's registers (spec/41 R100). -/
def State.sequencer (s : State) : Half × Half × BitVec 4 × Half :=
  (s.reg, s.flipNum, s.rangeIndex, s.rangeDivisor)

/-- The quantizer's registers (spec/42 R120). -/
def State.quantizer (s : State) : Half × Half × BitVec 4 := (s.scaleSel, s.octave, s.semitone)

/-- The registers CONFIGURE writes (spec/40 R81). -/
def State.configuration (s : State) : Polarity × Sample × Sample × Half × Bool :=
  (s.cfgPol, s.hystLow, s.hystHigh, s.rateHz, s.configured)

/-- The clock engine's registers but for the configuration and `running` (spec/10 R11 to R15, R21, R29). -/
def State.engine (s : State) : Sample × Half × Half × Code × Bool × Sample × Option Code × List Code :=
  (s.lastSample, s.edgeCounter, s.divisor, s.bufferedOutput, s.tickFlag, s.auxSample, s.dacLast, s.outHistory)

/-- The states agree on all that a sequencer or quantizer instruction may depend on. -/
def State.sameMusic (s t : State) : Prop :=
  s.fault = t.fault ∧ s.faultCause = t.faultCause ∧ s.sequencer = t.sequencer ∧ s.quantizer = t.quantizer ∧
    s.cfg = t.cfg ∧ s.drawAnswers = t.drawAnswers ∧ s.draws = t.draws

/-- The pitch of the resolved note, `12*octave + semitone` (spec/42 R125). -/
def State.pitch (s : State) : Nat := 12 * s.octave.toNat + s.semitone.toNat

/-- The next tick brings a qualifying edge (spec/40 R86). -/
def State.edgeNext (s : State) : Bool := s.edge s.lastSample s.nextSample

/-- The next tick brings a qualifying edge and the counter reaches the divisor (spec/40 R87). -/
def State.triggerNext (s : State) : Bool := s.edgeNext && s.edgeCounter.toNat + 1 == s.divisor.toNat

/-- How many of the next `n` ticks bring a qualifying edge (spec/40 R91). -/
def State.edgesIn : Nat → State → Nat
  | 0, _ => 0
  | n + 1, s => (if s.edgeNext then 1 else 0) + State.edgesIn n s.sampleClock.sampleAux

/-- The event is a response. -/
def PortEvent.isRsp : PortEvent → Bool
  | .rsp _ => true
  | _ => false

end Sys2Proof.Machine
end

