-- ==== Sys2Proof/Certificates/Slice0/Obligations.lean ====
section
/-!
DEFINITION. The statements about the block, in the order of spec/: encoding, the step, whole-machine rules,
the clock engine, the sequencer, the quantizer. A statement that gives the next state as the old one with
named fields replaced says the frame too: every register it does not name is unchanged.
-/

open Sys2Proof Sys2Proof.Machine

/-! ## Encoding -/

/-- spec/30 R61 to R63, R68: no operand bit of any encoding is dropped. -/
def Obligations.EncodedInstructionsDecodeBack : Prop :=
  ∀ i : Instr, decodePort (encode i) = some i

/-- spec/30 R60 to R63, R68: every port word that is an instruction has exactly that instruction's encoding. -/
def Obligations.DecodedWordsEncodeBack : Prop :=
  ∀ (p : PortWord) (i : Instr), decodePort p = some i → encode i = p

/-- spec/30 R63: the decoder names the first, and the only, row of the opcode map whose mask and match accept
the word. -/
def Obligations.DecoderAgreesWithTheOpcodeMap : Prop :=
  ∀ w : CmdWord,
    (decodeCmd w).map Instr.mnemonic = (opcodeTable.find? (·.accepts w)).map OpcodeRow.mnemonic ∧
    ∀ r ∈ opcodeTable, ∀ r' ∈ opcodeTable, r.accepts w = true → r'.accepts w = true → r = r'

/-- spec/95 V-ENC: words of every unit, written out by the spec. -/
def Obligations.SpecWordsDecodeToTheirInstructions : Prop :=
  decodeCmd 0x100003E8080007D0 = some (.configure 1000 .hiToLo 2000 2048) ∧
  decodeCmd 0x100101F40BB803E8 = some (.configure 500 .loToHi 1000 3000) ∧
  decodeCmd 0x1400000000000EAA = some (.setNextOutput 3754) ∧
  decodeCmd 0x2200000000000001 = some (.forceBit true) ∧
  decodeCmd 0x2300000000000040 = some (.setFlipProb 64) ∧
  decodeCmd 0x3100000000000087 = some (.setNote 135) ∧
  decodeCmd 0x3300000000000000 = some .getSemitone ∧
  decodeCmd 0x100203E800020001 = none ∧
  decodeCmd 0x2200000000000002 = none ∧
  decodeCmd 0xFF00000000000000 = none

/-- spec/30 R66, R67: the fields of the response word, and the four status codes. -/
def Obligations.ResponseWordHasItsFields : Prop :=
  (∀ r : Response, r.word.extractLsb' 28 4 = r.status.code ∧ r.word.extractLsb' 16 12 = 0 ∧
    r.word.extractLsb' 0 16 = r.data) ∧
  Status.ok.code = 0x0 ∧ Status.okClamped.code = 0x1 ∧ Status.refused.code = 0xE ∧ Status.fault.code = 0xF

/-! ## The step -/

/-- spec/30 R64, R68: an arriving port word that is an instruction is taken off the queue and run. -/
def Obligations.StepRunsTheDecodedInstruction : Prop :=
  ∀ (s : State) (p : PortWord) (i : Instr) (rest : List Arrival),
    s.arrivals = .one (.port p) :: rest → decodePort p = some i →
    step s = exec i { s with arrivals := rest }

/-- Log entry 1 (the model's choice: a step with nothing to serve exists) and spec/30 R68 (a 0 on `tick` is no
expiry): nothing but the queue changes. -/
def Obligations.NothingHappensWithoutAnEvent : Prop :=
  (∀ s : State, s.arrivals = [] → step s = .next s) ∧
  ∀ (s : State) (rest : List Arrival), s.arrivals = .one (.port (.tick 0)) :: rest →
    step s = .next { s with arrivals := rest }

/-- spec/30 R65: a word outside the opcode map, or READ_AUX without HAS_AUX, raises ILLEGAL_CMD and changes
nothing else. -/
def Obligations.IllegalWordRaisesIllegalCmd : Prop :=
  ∀ (s : State) (w : CmdWord) (rest : List Arrival),
    s.arrivals = .one (.port (.cmd w)) :: rest → s.fault = false →
    ((∀ r ∈ opcodeTable, r.accepts w = false) ∨ (w = 0x1700000000000000 ∧ s.cfg.hasAux = false)) →
    step s = .next ({ s with arrivals := rest }.withError .illegalCmd)

/-- spec/60 R144: in the faulted state every command word is refused with the first cause, and every tick is
dropped; nothing else changes. -/
def Obligations.FaultedBlockRefusesCommandsAndDropsTicks : Prop :=
  ∀ (s : State) (rest : List Arrival), s.fault = true →
    (∀ w : CmdWord, s.arrivals = .one (.port (.cmd w)) :: rest →
      step s = .next ({ s with arrivals := rest }.logged
        [.rsp ⟨.refused, (causeCode s.faultCause).setWidth 16⟩])) ∧
    (∀ b : BitVec 1, s.arrivals = .one (.port (.tick b)) :: rest → step s = .next { s with arrivals := rest })

/-- spec/70 R170, log entry 8 (what the environment owns is the model's choice): the reset strobe gives the
reset state of the block's own parameters in every state. -/
def Obligations.ResetStrobeGivesTheResetState : Prop :=
  ∀ (s : State) (rest : List Arrival), s.arrivals = .one .reset :: rest →
    step s = .next { State.resetWith s.cfg with
      arrivals := rest, sampleAnswers := s.sampleAnswers, drawAnswers := s.drawAnswers,
      reads := s.reads, draws := s.draws, ties := s.ties }

/-- spec/10 R35: the table of reset values, for every block whose reset values are the table's. -/
def Obligations.ResetStateHoldsTheTable : Prop :=
  ∀ c : Config, c.resetValues = {} →
    let s := State.resetWith c
    s.lastSample = 0 ∧ s.edgeCounter = 0 ∧ s.divisor = 1 ∧ s.bufferedOutput = 0 ∧ s.tickFlag = false ∧
    s.cfgPol.bit = 0 ∧ s.hystLow = 0 ∧ s.hystHigh = 0 ∧ s.rateHz = 0 ∧ s.configured = false ∧
    s.running = false ∧ s.auxSample = 0 ∧ s.reg = 0 ∧ s.flipNum = 0 ∧ s.rangeIndex = 0 ∧
    s.rangeDivisor = c.divisorTable[0] ∧ s.scaleSel = 0 ∧ s.octave = 0 ∧ s.semitone = 0 ∧
    s.fault = false ∧ causeCode s.faultCause = 0 ∧ s.dacLast = none ∧ s.outHistory = []

/-- spec/60 R145: no step but the reset strobe leaves the faulted state, and no second fault replaces the
first cause. -/
def Obligations.OnlyResetLeavesTheFaultedState : Prop :=
  ∀ s t : State, step s = .next t → s.fault = true → (¬ ∃ rest, s.arrivals = .one .reset :: rest) →
    t.fault = true ∧ t.faultCause = s.faultCause

/-- spec/20 R57, U8: of an ACK and a tick in the same instant the ACK goes first, so a trigger's flag
survives; any other pair is served as one of its two serial orders (the free choice of log entry 6). -/
def Obligations.SameInstantArrivalsAreSerialised : Prop :=
  (∀ (s : State) (rest : List Arrival), s.arrivals = .together 0x1600000000000000 :: rest →
    s.fault = false → s.running = true → s.triggerNext = true →
    ∃ t u, step s = .next t ∧ t.tickFlag = false ∧ t.arrivals = .one (.port (.tick 1)) :: rest ∧
      step t = .next u ∧ u.tickFlag = true ∧ u.arrivals = rest) ∧
  ∀ (s : State) (w : CmdWord) (rest : List Arrival), s.arrivals = .together w :: rest →
    step s = step { s with
      arrivals := .one (.port (.cmd w)) :: .one (.port (.tick 1)) :: rest, ties := s.ties + 1 } ∨
    step s = step { s with
      arrivals := .one (.port (.tick 1)) :: .one (.port (.cmd w)) :: rest, ties := s.ties + 1 }

/-! ## Whole-machine rules -/

/-- spec/10 R34, R35: the invariants hold after reset, whatever legal parameters the block has, P0 among
them (State.reset takes P0: log entry 2). -/
def Obligations.InvariantsHoldAfterReset : Prop :=
  Inv State.reset ∧ ∀ c : Config, c.Valid → Inv (State.resetWith c)

/-- spec/10 R34: every step keeps the invariants, from every state that meets them. -/
def Obligations.StepKeepsTheInvariants : Prop :=
  ∀ s t : State, Inv s → step s = .next t → Inv t

/-- spec/20 R58, spec/60 R140, spec/42 R135: from a state that meets the invariants a step always answers a
next state. -/
def Obligations.SafeStateNeverStops : Prop :=
  ∀ s : State, Inv s → ∃ t, step s = .next t

/-- spec/10 R34, spec/20 R48: after reset, for every legal configuration, every sequence of arrivals and every
answer of the environment, any number of steps ends in a state that meets the invariants. -/
def Obligations.RunsAfterResetStaySafe : Prop :=
  ∀ (c : Config) (q : List Arrival) (a : List Sample) (d : List Half) (k : Nat), c.Valid →
    ∃ t : State, Host.Core.run core k
      ({ State.resetWith c with arrivals := q, sampleAnswers := a, drawAnswers := d } : State) = .next t ∧ Inv t

/-- spec/20 R40, R56, spec/70 R171: no step changes a table or a parameter. -/
def Obligations.ParametersNeverChange : Prop :=
  ∀ s t : State, step s = .next t → t.cfg = s.cfg

/-- spec/10 R15: only SAMPLE raises the flag, and only ACK lowers it. -/
def Obligations.TickFlagIsRaisedBySampleAndLoweredByAck : Prop :=
  ∀ (i : Instr) (s t : State), exec i s = .next t →
    (s.tickFlag = false → t.tickFlag = true → i = .sample ∧ s.triggerNext = true) ∧
    (s.tickFlag = true → t.tickFlag = false → i = .ack)

/-- spec/10 R29, spec/20 R45: only SAMPLE writes the analog output, at most once, the buffered code, and the
last code written is kept. -/
def Obligations.OutputIsWrittenBySampleOnly : Prop :=
  ∀ (i : Instr) (s t : State), exec i s = .next t →
    (t.outHistory = s.outHistory ∧ t.dacLast = s.dacLast) ∨
    (i = .sample ∧ t.outHistory = s.outHistory ++ [s.bufferedOutput] ∧ t.dacLast = some s.bufferedOutput)

/-- spec/41 R100, spec/42 R120, spec/70 R185, R188: each unit's instructions leave the registers of the
other units alone; only a ConfigurationError reaches across, into `running`. -/
def Obligations.UnitsLeaveEachOtherAlone : Prop :=
  ∀ (i : Instr) (s t : State), exec i s = .next t →
    (partOf i ≠ .sequencer → t.sequencer = s.sequencer) ∧
    (partOf i ≠ .quantizer → t.quantizer = s.quantizer) ∧
    (partOf i ≠ .clock → t.engine = s.engine ∧ t.configuration = s.configuration ∧
      (t.running = s.running ∨ (t.running = false ∧ t.fault = true)))

/-- spec/10 R32, spec/60 R151: each control register is written by its own command and no other. -/
def Obligations.ControlRegistersHaveOneWriter : Prop :=
  ∀ (i : Instr) (s t : State), exec i s = .next t →
    (t.configuration ≠ s.configuration → ∃ rate pol low high, i = .configure rate pol low high) ∧
    (t.divisor ≠ s.divisor → ∃ n, i = .setDivisor n) ∧
    (t.bufferedOutput ≠ s.bufferedOutput → ∃ code, i = .setNextOutput code) ∧
    (t.flipNum ≠ s.flipNum → ∃ p, i = .setFlipProb p) ∧
    (t.rangeIndex ≠ s.rangeIndex ∨ t.rangeDivisor ≠ s.rangeDivisor → ∃ k, i = .setRange k) ∧
    (t.scaleSel ≠ s.scaleSel → ∃ k, i = .setScale k) ∧
    (s.running = false → t.running = true → i = .start)

/-- spec/30 R66, R68, spec/20 R58: a command produces exactly one response, as its last port event; a tick
produces none. -/
def Obligations.EveryCommandRespondsExactlyOnce : Prop :=
  ∀ (i : Instr) (s t : State), exec i s = .next t →
    (i.isCommand = true →
      ∃ es r, t.trace = s.trace ++ es ++ [.rsp r] ∧ ∀ e ∈ es, e.isRsp = false) ∧
    (i.isCommand = false → ∃ es, t.trace = s.trace ++ es ∧ ∀ e ∈ es, e.isRsp = false)

/-- spec/60 R143: a step that enters the faulted state writes `fault`, `faultCause` and `running`, stops the
timer, responds FAULT with the cause, and leaves every other register as it was. -/
def Obligations.ConfigurationErrorWritesNothingElse : Prop :=
  ∀ s t : State, step s = .next t → s.fault = false → t.fault = true →
    ∃ c : Cause, t = { s.withError c with arrivals := t.arrivals, ties := t.ties }

/-- spec/60 R141, R142: which causes each instruction can raise (cause 8 comes from READ_AUX without HAS_AUX;
undecodable words are another statement). -/
def Obligations.EachInstructionRaisesOnlyItsCauses : Prop :=
  ∀ (i : Instr) (s t : State), exec i s = .next t → s.fault = false → t.fault = true →
    (∃ r p l h, i = .configure r p l h ∧
      (t.faultCause = some .sequence ∨ t.faultCause = some .valueRange ∨ t.faultCause = some .rate)) ∨
    (i = .start ∧ t.faultCause = some .sequence) ∨
    (i = .setDivisor 0 ∧ t.faultCause = some .divisorZero) ∨
    (∃ v, i = .setNextOutput v ∧ t.faultCause = some .valueRange) ∨
    (∃ v, i = .setFlipProb v ∧ t.faultCause = some .flipRange) ∨
    (∃ v, i = .setRange v ∧ t.faultCause = some .rangeIndex) ∨
    (∃ v, i = .setScale v ∧ t.faultCause = some .scaleIndex) ∨
    (i = .readAux ∧ s.cfg.hasAux = false ∧ t.faultCause = some .illegalCmd)

/-- spec/70 R185, spec/41 R102: two states that agree on the sequencer, the quantizer and the draws answer a
sequencer or quantizer instruction alike, whatever the clock engine holds. -/
def Obligations.MusicDoesNotDependOnTheClockEngine : Prop :=
  ∀ (i : Instr) (s s' t : State), partOf i ≠ .clock → s.sameMusic s' → exec i s = .next t →
    ∃ t', exec i s' = .next t' ∧ t.sameMusic t' ∧ t.trace.getLast? = t'.trace.getLast?

/-- Log entry 9 (the model's choice, spec/42 R135, spec/20 R53): the two stops, both in states the invariants
of spec/10 R34 rule out. -/
def Obligations.BrokenStatesStopByName : Prop :=
  (∀ s : State, s.fault = false → s.rangeDivisor = 0 → exec .deriveNote s = .fault .divideByZero) ∧
  ∀ (s : State) (note : Half), s.fault = false → s.scaleSel ≠ 0 → s.cfg.numScales < s.scaleSel.toNat →
    exec (.setNote note) s = .fault .scanOutsideScaleTable

/-! ## Clock/Timing Engine -/

/-- spec/40 R81, spec/60 R148: what CONFIGURE stores, and its three checks in their order. -/
def Obligations.ConfigureChecksThenStores : Prop :=
  ∀ (rate : Half) (pol : Polarity) (low high : Half) (s : State), s.fault = false →
    (s.running = true → exec (.configure rate pol low high) s = .next (s.withError .sequence)) ∧
    (s.running = false → (2 ^ RES ≤ high.toNat ∨ 2 ^ RES ≤ low.toNat) →
      exec (.configure rate pol low high) s = .next (s.withError .valueRange)) ∧
    (s.running = false → high.toNat < 2 ^ RES → low.toNat < 2 ^ RES → s.cfg.rateOK rate = false →
      exec (.configure rate pol low high) s = .next (s.withError .rate)) ∧
    (s.running = false → high.toNat < 2 ^ RES → low.toNat < 2 ^ RES → s.cfg.rateOK rate = true →
      ∃ l h : Sample, l.toNat = low.toNat ∧ h.toNat = high.toNat ∧
        exec (.configure rate pol low high) s =
          .next ({ s with
            cfgPol := pol, hystLow := l, hystHigh := h, rateHz := rate, configured := true }.logged
              [.timerConfigure rate, okRsp 0]))

/-- spec/00 R6, D16: the fixed points of `RateOK`, for every configuration. -/
def Obligations.RateZeroFailsAndObservedRatesPass : Prop :=
  ∀ c : Config, c.rateOK 0 = false ∧ ∀ r : Half, 500 ≤ r.toNat → r.toNat ≤ 4000 → c.rateOK r = true

/-- spec/40 R82: the encoding, the sequence check, and that nothing but `running` is written. -/
def Obligations.StartNeedsAConfiguration : Prop :=
  encode .start = .cmd 0x1100000000000000 ∧ ∀ s : State, s.fault = false →
    (s.configured = false → exec .start s = .next (s.withError .sequence)) ∧
    (s.configured = true → exec .start s = .next ({ s with running := true }.logged [.timerStart, okRsp 0]))

/-- spec/40 R83: the encoding, and that STOP writes nothing but `running`. -/
def Obligations.StopKeepsEverythingElse : Prop :=
  encode .stop = .cmd 0x1200000000000000 ∧ ∀ s : State, s.fault = false →
    exec .stop s = .next ({ s with running := false }.logged [.timerStop, okRsp 0])

/-- spec/40 R84: the encoding; a zero divisor is rejected, any other clears the partial count. -/
def Obligations.SetDivisorClearsTheCount : Prop :=
  ∀ (n : Half) (s : State), encode (.setDivisor n) = .cmd (0x13#8 ++ 0#40 ++ n) ∧ (s.fault = false →
    (n = 0 → exec (.setDivisor n) s = .next (s.withError .divisorZero)) ∧
    (n ≠ 0 → exec (.setDivisor n) s = .next ({ s with divisor := n, edgeCounter := 0 }.logged [okRsp 0])))

/-- spec/40 R85: the encoding; a code is checked and buffered, and nothing goes to the analog output. -/
def Obligations.SetNextOutputBuffersTheCode : Prop :=
  ∀ (code : Half) (s : State), encode (.setNextOutput code) = .cmd (0x14#8 ++ 0#40 ++ code) ∧ (s.fault = false →
    (2 ^ RES ≤ code.toNat → exec (.setNextOutput code) s = .next (s.withError .valueRange)) ∧
    (code.toNat < 2 ^ RES → ∃ c : Code, c.toNat = code.toNat ∧
      exec (.setNextOutput code) s = .next ({ s with bufferedOutput := c }.logged [okRsp 0])))

/-- spec/40 R86: the strict two-sided test and its consequences: a sample inside the closed band blocks the
edge on either side, and with an upright band no sample is both an arrival and a departure of an edge. -/
def Obligations.EdgeTestIsStrictAndTwoSided : Prop :=
  ∀ (s : State) (p v : Sample),
    (s.cfgPol = .hiToLo →
      (s.edge p v = true ↔ s.hystHigh.toNat < p.toNat ∧ v.toNat < s.hystLow.toNat)) ∧
    (s.cfgPol = .loToHi →
      (s.edge p v = true ↔ p.toNat < s.hystLow.toNat ∧ s.hystHigh.toNat < v.toNat)) ∧
    (s.hystLow.toNat ≤ v.toNat → v.toNat ≤ s.hystHigh.toNat →
      s.edge p v = false ∧ ∀ u : Sample, s.edge v u = false) ∧
    (s.hystLow.toNat ≤ s.hystHigh.toNat → s.edge p v = true → ∀ u : Sample, s.edge v u = false)

/-- spec/40 R87, spec/20 R44, R45: what one performed SAMPLE reads, counts, dispatches and records, and that
it touches nothing else. The sample is the value the environment returns, whatever it is. -/
def Obligations.SampleReadsCountsAndDispatches : Prop :=
  ∀ s : State, s.running = true → s.fault = false →
    ∃ t : State, exec .sample s = .next t ∧
      t = { s with
        lastSample := s.nextSample, edgeCounter := t.edgeCounter, tickFlag := t.tickFlag,
        dacLast := t.dacLast, outHistory := t.outHistory, auxSample := t.auxSample,
        sampleAnswers := t.sampleAnswers, reads := t.reads, trace := t.trace } ∧
      (s.edgeNext = false → t.edgeCounter = s.edgeCounter) ∧
      (s.edgeNext = true → s.triggerNext = false → t.edgeCounter = s.edgeCounter + 1) ∧
      (s.triggerNext = true → t.edgeCounter = 0 ∧ t.tickFlag = true ∧
        t.dacLast = some s.bufferedOutput ∧ t.outHistory = s.outHistory ++ [s.bufferedOutput]) ∧
      (s.triggerNext = false → t.tickFlag = s.tickFlag ∧ t.dacLast = s.dacLast ∧
        t.outHistory = s.outHistory) ∧
      (s.cfg.hasAux = true → t.auxSample = (s.afterRead s.cfg.clkChannel).nextSample ∧
        t.reads = s.reads + 2) ∧
      (s.cfg.hasAux = false → t.auxSample = s.auxSample ∧ t.reads = s.reads + 1) ∧
      t.trace = s.trace ++ [.ioRead s.cfg.clkChannel s.nextSample] ++
        (if s.triggerNext then [.ioWrite s.bufferedOutput] else []) ++
        (if s.cfg.hasAux then [.ioRead s.cfg.auxChannel t.auxSample] else [])

/-- spec/60 R149: a tick is dropped, with no memory of it, unless running and not faulted. -/
def Obligations.TickIsDroppedUnlessRunning : Prop :=
  ∀ s : State, (s.running = false ∨ s.fault = true) → exec .sample s = .next s

/-- spec/40 R91: fewer than `divisor` qualifying edges trigger nothing and are counted; the `divisor`-th
triggers once. Any samples, qualifying or not, in any order. -/
def Obligations.DivisorEdgesMakeOneTrigger : Prop :=
  ∀ (s : State) (n : Nat), s.running = true → s.fault = false → s.edgeCounter = 0 → s.tickFlag = false →
    1 ≤ s.divisor.toNat →
    ∃ t : State, execAll (List.replicate n .sample) s = .next t ∧
      (s.edgesIn n < s.divisor.toNat → t.tickFlag = false ∧ t.edgeCounter.toNat = s.edgesIn n ∧
        t.outHistory = s.outHistory) ∧
      (s.edgesIn n = s.divisor.toNat → t.tickFlag = true ∧ t.edgeCounter = 0 ∧
        t.outHistory = s.outHistory ++ [s.bufferedOutput])

/-- spec/40 R88, spec/30 R59, spec/60 R150: the encoding; the flag is reported and nothing is written; the
`tick_flag` port shows the same flag, faulted or not. -/
def Obligations.HasTickedReportsTheFlag : Prop :=
  encode .hasTicked = .cmd 0x1500000000000000 ∧ ∀ s : State,
    (s.fault = false → exec .hasTicked s = .next (s.logged [okRsp (if s.tickFlag then 1 else 0)])) ∧
    (s.tickFlagPin = 1 ↔ s.tickFlag = true)

/-- spec/40 R89: the encoding; the flag is cleared and nothing else is written. -/
def Obligations.AckClearsTheFlagOnly : Prop :=
  encode .ack = .cmd 0x1600000000000000 ∧ ∀ s : State, s.fault = false →
    exec .ack s = .next ({ s with tickFlag := false }.logged [okRsp 0])

/-- spec/40 R90, spec/30 R65: the auxiliary reading is reported; without the channel the word is illegal. -/
def Obligations.ReadAuxReportsTheAuxiliarySample : Prop :=
  ∀ s : State, s.fault = false →
    (s.cfg.hasAux = true → ∃ d : Half, d.toNat = s.auxSample.toNat ∧
      exec .readAux s = .next (s.logged [okRsp d])) ∧
    (s.cfg.hasAux = false → exec .readAux s = .next (s.withError .illegalCmd))

/-- spec/20 R50, spec/30 R74: from a stopped state, whatever commands but START and whatever ticks follow, no
sample is read and no code is written. -/
def Obligations.NoSampleBetweenStopAndStart : Prop :=
  ∀ (is : List Instr) (s t : State), s.running = false → (∀ i ∈ is, i ≠ .start) → execAll is s = .next t →
    t.running = false ∧ t.lastSample = s.lastSample ∧ t.auxSample = s.auxSample ∧
      t.outHistory = s.outHistory ∧ t.dacLast = s.dacLast ∧ t.reads = s.reads ∧
      (s.tickFlag = false → t.tickFlag = false)

/-- spec/30 R74, spec/70 R180: the critical section around HAS_TICKED and ACK turns sampling on, even if it was
off, and needs a configuration, else its closing START faults. -/
def Obligations.CriticalSectionNeedsAConfiguration : Prop :=
  ∀ s : State, s.fault = false →
    (s.configured = true → ∃ t : State, execAll (critical [.hasTicked, .ack]) s = .next t ∧
      t = { s with running := true, tickFlag := false, trace := t.trace }) ∧
    (s.configured = false → ∃ t : State, execAll (critical [.hasTicked, .ack]) s = .next t ∧
      t = { s with
        running := false, tickFlag := false, fault := true, faultCause := some .sequence, trace := t.trace })

/-! ## Stochastic Sequencer -/

/-- spec/41 R101, R102: the register rotates left by one, the incoming bit is complemented exactly when the
draw is below `flipNum`. The draw is the value the random source returns, whatever it is. -/
def Obligations.StepRotatesWithTheFlip : Prop :=
  ∀ s : State, s.fault = false →
    ∃ reg : Half,
      exec .step s = .next ({ s with
        reg := reg, drawAnswers := s.drawAnswers.tail, draws := s.draws + 1 }.logged
          [.draw s.nextDraw, okRsp 0]) ∧
      (∀ i < 15, reg.getLsbD (i + 1) = s.reg.getLsbD i) ∧
      reg.getLsbD 0 = (s.reg.getLsbD 15 ^^ decide (s.nextDraw < s.flipNum.toNat))

/-- spec/41 R102, spec/30 R69, U2: a draw lies in 0..FLIP_DENOM-1, an in-range answer is taken as it is, and
with `flipNum = 0` no draw flips. -/
def Obligations.DrawLiesBelowTheDenominator : Prop :=
  ∀ s : State, 2 ≤ s.cfg.flipDenom →
    s.nextDraw < s.cfg.flipDenom ∧
    (∀ r rest, s.drawAnswers = r :: rest → r.toNat < s.cfg.flipDenom → s.nextDraw = r.toNat) ∧
    (s.flipNum = 0 → decide (s.nextDraw < s.flipNum.toNat) = false)

/-- spec/41 R107: with `flipNum = 0`, after k STEPs bit i stands at (i + k) mod 16, whatever is drawn; so
after 16 the register is back. -/
def Obligations.StepsWithoutFlipsRotate : Prop :=
  ∀ (s : State) (k : Nat), s.fault = false → s.flipNum = 0 →
    ∃ t : State, execAll (List.replicate k .step) s = .next t ∧
      t.rangeDivisor = s.rangeDivisor ∧
      (∀ i < 16, t.reg.getLsbD ((i + k) % 16) = s.reg.getLsbD i) ∧
      (k % 16 = 0 → t.reg = s.reg)

/-- spec/41 R103: the encoding; the note of the low byte, bit-exact, in a field wide enough for it, and nothing
written. -/
def Obligations.DeriveNoteIsTheTransform : Prop :=
  encode .deriveNote = .cmd 0x2100000000000000 ∧ ∀ s : State, s.fault = false → s.rangeDivisor ≠ 0 →
    ∃ d : Half, exec .deriveNote s = .next (s.logged [okRsp d]) ∧
      d.toNat = (((s.reg.toNat % 256 * 8 + 256) * 32) / s.rangeDivisor.toNat + 16) / 32

/-- spec/41 R108: the transform is monotone in the byte, antitone in the divisor, within 0..2296, and rounds
the quotient by 32 to the nearest, halves up; at 57 it runs from 4 to 40 and is 5 exactly for the bytes 1 to
7. -/
def Obligations.NoteTransformLaws : Prop :=
  (∀ b b' d : Nat, b ≤ b' → noteOf b d ≤ noteOf b' d) ∧
  (∀ b d d' : Nat, 1 ≤ d → d ≤ d' → noteOf b d' ≤ noteOf b d) ∧
  (∀ d : Nat, noteOf 0 d = (8192 / d + 16) / 32 ∧ noteOf 255 d = (73472 / d + 16) / 32) ∧
  (∀ b d : Nat, b ≤ 255 → noteOf b d ≤ 2296) ∧
  (∀ b d : Nat, 64 * noteOf b d ≤ 2 * ((b * 8 + 256) * 32 / d) + 32 ∧
    2 * ((b * 8 + 256) * 32 / d) + 32 < 64 * noteOf b d + 64) ∧
  noteOf 0 57 = 4 ∧ noteOf 255 57 = 40 ∧ ∀ b ≤ 255, (noteOf b 57 = 5 ↔ 1 ≤ b ∧ b ≤ 7)

/-- spec/41 R104: bit 0 is overwritten, bits 15:1 stay, and after k further STEPs (k up to 15, whatever the
flips) the forced bit stands at position k (spec/90 C1). -/
def Obligations.ForceBitWritesBitZero : Prop :=
  ∀ (b : Bool) (s : State), s.fault = false →
    (∃ reg : Half, exec (.forceBit b) s = .next ({ s with reg := reg }.logged [okRsp 0]) ∧
      reg.getLsbD 0 = b ∧ ∀ i < 16, i ≠ 0 → reg.getLsbD i = s.reg.getLsbD i) ∧
    ∀ k ≤ 15, ∃ t : State, execAll (.forceBit b :: List.replicate k .step) s = .next t ∧
      t.reg.getLsbD k = b

/-- spec/41 R105: the encoding; a numerator below FLIP_DENOM is stored, any other rejected. -/
def Obligations.SetFlipProbChecksTheDenominator : Prop :=
  ∀ (p : Half) (s : State), encode (.setFlipProb p) = .cmd (0x23#8 ++ 0#40 ++ p) ∧ (s.fault = false →
    (s.cfg.flipDenom ≤ p.toNat → exec (.setFlipProb p) s = .next (s.withError .flipRange)) ∧
    (p.toNat < s.cfg.flipDenom → exec (.setFlipProb p) s = .next ({ s with flipNum := p }.logged [okRsp 0])))

/-- spec/41 R106, spec/20 R41: the encoding; an index above 9 and a zero entry are rejected; else the index and
its entry are stored. -/
def Obligations.SetRangeSelectsATableEntry : Prop :=
  ∀ (index : Half) (s : State), encode (.setRange index) = .cmd (0x24#8 ++ 0#40 ++ index) ∧ (s.fault = false →
    (9 < index.toNat → exec (.setRange index) s = .next (s.withError .rangeIndex)) ∧
    ∀ h : index.toNat < 10,
      (s.cfg.divisorTable[index.toNat] = 0 →
        exec (.setRange index) s = .next (s.withError .rangeIndex)) ∧
      (s.cfg.divisorTable[index.toNat] ≠ 0 → ∃ k : BitVec 4, k.toNat = index.toNat ∧
        exec (.setRange index) s = .next ({ s with
          rangeIndex := k, rangeDivisor := s.cfg.divisorTable[index.toNat] }.logged [okRsp 0])))

/-- spec/30 R73: the sixteen STEP and FORCE_BIT pairs load the register, whatever the flips and with ticks
anywhere between them. -/
def Obligations.LoadRegLoadsItsValue : Prop :=
  ∀ (v : Half) (is : List Instr) (s : State), s.fault = false →
    is.filter (· ≠ .sample) = loadReg v →
    ∃ t : State, execAll is s = .next t ∧ t.reg = v ∧ t.flipNum = s.flipNum ∧
      t.rangeIndex = s.rangeIndex ∧ t.quantizer = s.quantizer

/-! ## Scale Quantizer -/

/-- spec/42 R121: the encoding; the scale is selected and the resolved note is kept. -/
def Obligations.SetScaleSelectsWithoutResolving : Prop :=
  ∀ (sel : Half) (s : State), encode (.setScale sel) = .cmd (0x30#8 ++ 0#40 ++ sel) ∧ (s.fault = false →
    (s.cfg.numScales < sel.toNat → exec (.setScale sel) s = .next (s.withError .scaleIndex)) ∧
    (sel.toNat ≤ s.cfg.numScales → exec (.setScale sel) s = .next ({ s with scaleSel := sel }.logged [okRsp 0])))

/-- spec/42 R122: chromatic notes pass through; under a scale the least entry at or above the raw semitone is
taken, and the sentinel 12 becomes semitone 0 of the next octave. -/
def Obligations.SetNoteSnapsUp : Prop :=
  ∀ (note : Half) (s : State), s.fault = false →
    (s.scaleSel = 0 → ∃ (o : Half) (m : BitVec 4), o.toNat = note.toNat / 12 ∧ m.toNat = note.toNat % 12 ∧
      exec (.setNote note) s = .next ({ s with octave := o, semitone := m }.logged [okRsp 0])) ∧
    (s.cfg.Valid → s.scaleSel ≠ 0 → ∀ h : s.scaleSel.toNat - 1 < s.cfg.scaleRom.length,
      ∃ (j : Fin 8) (o : Half) (m : BitVec 4),
        let t := s.cfg.scaleRom[s.scaleSel.toNat - 1]
        note.toNat % 12 ≤ t[j].toNat ∧ (∀ k < j, t[k].toNat < note.toNat % 12) ∧
        (t[j] = 12 → o.toNat = note.toNat / 12 + 1 ∧ m = 0) ∧
        (t[j] ≠ 12 → o.toNat = note.toNat / 12 ∧ m = t[j]) ∧
        exec (.setNote note) s = .next ({ s with octave := o, semitone := m }.logged [okRsp 0]))

/-- spec/42 R125: chromatic passthrough; under a legal configuration the resolved pitch never falls below the
note nor above the next octave's first step, grows with the note, names an entry of the scale below 12 or the
wrap's 0, and quantizing it again changes nothing, where R125 says so. -/
def Obligations.QuantizedPitchLaws : Prop :=
  ∀ (n : Half) (s t : State), s.cfg.Valid → s.scaleSel.toNat ≤ s.cfg.numScales → s.fault = false →
    exec (.setNote n) s = .next t →
    (s.scaleSel = 0 → t.semitone.toNat = n.toNat % 12 ∧ t.octave.toNat = n.toNat / 12) ∧
    (∀ (n' : Half) (t' : State), n.toNat ≤ n'.toNat → exec (.setNote n') s = .next t' → t.pitch ≤ t'.pitch) ∧
    (n.toNat ≤ t.pitch ∧ t.pitch ≤ n.toNat + (12 - n.toNat % 12)) ∧
    (∀ tab, s.scaleSel ≠ 0 → s.cfg.romScale (s.scaleSel.toNat - 1) = some tab →
      (t.semitone ∈ tab.toList ∧ t.semitone.toNat < 12) ∨
      (t.semitone = 0 ∧ t.octave.toNat = n.toNat / 12 + 1)) ∧
    (∀ (q : Half) (t' : State), q.toNat = t.pitch →
      (t.octave.toNat = n.toNat / 12 ∨
        ∃ tab, s.cfg.romScale (s.scaleSel.toNat - 1) = some tab ∧ tab[0] = 0) →
      exec (.setNote q) s = .next t' → t'.pitch = t.pitch)

/-- spec/42 R123, spec/60 R146: the entry of the table at `octave*12 + semitone`, or past the table its last
entry with the clamp reported; nothing is written. -/
def Obligations.GetCodeLooksUpOrClamps : Prop :=
  ∀ s : State, s.fault = false → s.cfg.Valid →
    (s.octave.toNat * 12 + s.semitone.toNat ≤ s.cfg.vltSteps → ∃ d : Half,
      (d.toNat : Int) = s.cfg.vltValue (s.octave.toNat * 12 + s.semitone.toNat) ∧
      exec .getCode s = .next (s.logged [okRsp d])) ∧
    (s.cfg.vltSteps < s.octave.toNat * 12 + s.semitone.toNat → ∃ d : Half,
      (d.toNat : Int) = s.cfg.vltValue s.cfg.vltSteps ∧
      exec .getCode s = .next (s.logged [.rsp ⟨.okClamped, d⟩]))

/-- spec/42 R123: in every state, legal configuration or not, GET_CODE completes with the entry that
`RomRead(VLT, _)` gives, and writes no register. -/
def Obligations.GetCodeAlwaysCompletes : Prop :=
  ∀ s : State, s.fault = false → ∃ (i : Nat) (st : Status), i ≤ s.cfg.vltSteps ∧
    (st = .okClamped ↔ s.cfg.vltSteps < s.vltIndex) ∧
    exec .getCode s = .next (s.logged [.rsp ⟨st, (s.cfg.romVlt i).setWidth 16⟩])

/-- spec/42 R124: the encoding; the resolved semitone is reported and nothing is written. -/
def Obligations.GetSemitoneReportsTheSemitone : Prop :=
  encode .getSemitone = .cmd 0x3300000000000000 ∧ ∀ s : State, s.fault = false →
    ∃ d : Half, d.toNat = s.semitone.toNat ∧ exec .getSemitone s = .next (s.logged [okRsp d])

/-- spec/42 R132, R133: the ends of the table are exact, every entry of a legal configuration is its code,
and an entry is the exact value rounded to the nearest integer, a half going up. -/
def Obligations.LookupTableRoundsTheFormula : Prop :=
  ∀ c : Config, c.Valid →
    c.vltValue 0 = c.codeMax ∧ c.vltValue c.vltSteps = c.codeMax - c.codeRange ∧
    ∀ i ≤ c.vltSteps, ((c.romVlt i).toNat : Int) = c.vltValue i ∧
      2 * (c.codeMax * c.vltSteps - c.codeRange * i) - c.vltSteps < 2 * c.vltSteps * c.vltValue i ∧
      2 * c.vltSteps * c.vltValue i ≤ 2 * (c.codeMax * c.vltSteps - c.codeRange * i) + c.vltSteps

/-- spec/42 R134: a legal table is strictly monotonic, its direction given by the sign of CODE_RANGE. -/
def Obligations.LookupTableIsStrictlyMonotonic : Prop :=
  ∀ (c : Config) (i j : Nat), c.Valid → i < j → j ≤ c.vltSteps →
    (0 < c.codeRange → (c.romVlt j).toNat < (c.romVlt i).toNat) ∧
    (c.codeRange < 0 → (c.romVlt i).toNat < (c.romVlt j).toNat)

/-- spec/30 R72, for the chain with no tick between its commands (the model's choice, log entry 18: nothing is
said of other interleavings): from a safe state that is not faulted the whole SERVICE_TICK chain completes; a
pending flag is acknowledged, the sequencer advances, and the code of the quantized note is buffered. -/
def Obligations.ServiceTickBuffersTheNextCode : Prop :=
  ∀ s : State, Inv s → s.fault = false →
    (s.tickFlag = false → serviceTick s = .next (s.logged [okRsp 0])) ∧
    (s.tickFlag = true → ∃ t : State, serviceTick s = .next t ∧ t.fault = false ∧ t.tickFlag = false ∧
      t.reg = rotateWithFlip s.reg (decide (s.nextDraw < s.flipNum.toNat)) ∧
      t.bufferedOutput = s.cfg.romVlt (min t.vltIndex s.cfg.vltSteps) ∧
      s.resolveNote (noteOf (t.reg.toNat % 256) s.rangeDivisor.toNat) =
        some (t.octave.toNat, t.semitone.toNat) ∧
      t.outHistory = s.outHistory)
end

