-- ==== Sys2Proof/Laws/State.lean ====
section
/-!
SUPPORT. One lemma per field per update: what each named update of the state writes and what it leaves, so
that no proof unfolds a record update.
-/

namespace Sys2Proof.Machine

/-! ### `State.emit` -/

@[simp] theorem State.emit_lastSample (e : PortEvent) (s : State) :
    (s.emit e).lastSample = s.lastSample := rfl
@[simp] theorem State.emit_edgeCounter (e : PortEvent) (s : State) :
    (s.emit e).edgeCounter = s.edgeCounter := rfl
@[simp] theorem State.emit_divisor (e : PortEvent) (s : State) : (s.emit e).divisor = s.divisor := rfl
@[simp] theorem State.emit_bufferedOutput (e : PortEvent) (s : State) :
    (s.emit e).bufferedOutput = s.bufferedOutput := rfl
@[simp] theorem State.emit_tickFlag (e : PortEvent) (s : State) : (s.emit e).tickFlag = s.tickFlag := rfl
@[simp] theorem State.emit_cfgPol (e : PortEvent) (s : State) : (s.emit e).cfgPol = s.cfgPol := rfl
@[simp] theorem State.emit_hystLow (e : PortEvent) (s : State) : (s.emit e).hystLow = s.hystLow := rfl
@[simp] theorem State.emit_hystHigh (e : PortEvent) (s : State) : (s.emit e).hystHigh = s.hystHigh := rfl
@[simp] theorem State.emit_rateHz (e : PortEvent) (s : State) : (s.emit e).rateHz = s.rateHz := rfl
@[simp] theorem State.emit_configured (e : PortEvent) (s : State) :
    (s.emit e).configured = s.configured := rfl
@[simp] theorem State.emit_running (e : PortEvent) (s : State) : (s.emit e).running = s.running := rfl
@[simp] theorem State.emit_auxSample (e : PortEvent) (s : State) : (s.emit e).auxSample = s.auxSample := rfl
@[simp] theorem State.emit_reg (e : PortEvent) (s : State) : (s.emit e).reg = s.reg := rfl
@[simp] theorem State.emit_flipNum (e : PortEvent) (s : State) : (s.emit e).flipNum = s.flipNum := rfl
@[simp] theorem State.emit_rangeIndex (e : PortEvent) (s : State) :
    (s.emit e).rangeIndex = s.rangeIndex := rfl
@[simp] theorem State.emit_rangeDivisor (e : PortEvent) (s : State) :
    (s.emit e).rangeDivisor = s.rangeDivisor := rfl
@[simp] theorem State.emit_scaleSel (e : PortEvent) (s : State) : (s.emit e).scaleSel = s.scaleSel := rfl
@[simp] theorem State.emit_octave (e : PortEvent) (s : State) : (s.emit e).octave = s.octave := rfl
@[simp] theorem State.emit_semitone (e : PortEvent) (s : State) : (s.emit e).semitone = s.semitone := rfl
@[simp] theorem State.emit_fault (e : PortEvent) (s : State) : (s.emit e).fault = s.fault := rfl
@[simp] theorem State.emit_faultCause (e : PortEvent) (s : State) :
    (s.emit e).faultCause = s.faultCause := rfl
@[simp] theorem State.emit_dacLast (e : PortEvent) (s : State) : (s.emit e).dacLast = s.dacLast := rfl
@[simp] theorem State.emit_outHistory (e : PortEvent) (s : State) :
    (s.emit e).outHistory = s.outHistory := rfl
@[simp] theorem State.emit_cfg (e : PortEvent) (s : State) : (s.emit e).cfg = s.cfg := rfl
@[simp] theorem State.emit_arrivals (e : PortEvent) (s : State) : (s.emit e).arrivals = s.arrivals := rfl
@[simp] theorem State.emit_sampleAnswers (e : PortEvent) (s : State) :
    (s.emit e).sampleAnswers = s.sampleAnswers := rfl
@[simp] theorem State.emit_drawAnswers (e : PortEvent) (s : State) :
    (s.emit e).drawAnswers = s.drawAnswers := rfl
@[simp] theorem State.emit_reads (e : PortEvent) (s : State) : (s.emit e).reads = s.reads := rfl
@[simp] theorem State.emit_draws (e : PortEvent) (s : State) : (s.emit e).draws = s.draws := rfl
@[simp] theorem State.emit_ties (e : PortEvent) (s : State) : (s.emit e).ties = s.ties := rfl
@[simp] theorem State.emit_trace (e : PortEvent) (s : State) : (s.emit e).trace = s.trace ++ [e] := rfl

/-! ### `State.respond` -/

@[simp] theorem State.respond_lastSample (st : Status) (d : Half) (s : State) :
    (s.respond st d).lastSample = s.lastSample := rfl
@[simp] theorem State.respond_edgeCounter (st : Status) (d : Half) (s : State) :
    (s.respond st d).edgeCounter = s.edgeCounter := rfl
@[simp] theorem State.respond_divisor (st : Status) (d : Half) (s : State) :
    (s.respond st d).divisor = s.divisor := rfl
@[simp] theorem State.respond_bufferedOutput (st : Status) (d : Half) (s : State) :
    (s.respond st d).bufferedOutput = s.bufferedOutput := rfl
@[simp] theorem State.respond_tickFlag (st : Status) (d : Half) (s : State) :
    (s.respond st d).tickFlag = s.tickFlag := rfl
@[simp] theorem State.respond_cfgPol (st : Status) (d : Half) (s : State) :
    (s.respond st d).cfgPol = s.cfgPol := rfl
@[simp] theorem State.respond_hystLow (st : Status) (d : Half) (s : State) :
    (s.respond st d).hystLow = s.hystLow := rfl
@[simp] theorem State.respond_hystHigh (st : Status) (d : Half) (s : State) :
    (s.respond st d).hystHigh = s.hystHigh := rfl
@[simp] theorem State.respond_rateHz (st : Status) (d : Half) (s : State) :
    (s.respond st d).rateHz = s.rateHz := rfl
@[simp] theorem State.respond_configured (st : Status) (d : Half) (s : State) :
    (s.respond st d).configured = s.configured := rfl
@[simp] theorem State.respond_running (st : Status) (d : Half) (s : State) :
    (s.respond st d).running = s.running := rfl
@[simp] theorem State.respond_auxSample (st : Status) (d : Half) (s : State) :
    (s.respond st d).auxSample = s.auxSample := rfl
@[simp] theorem State.respond_reg (st : Status) (d : Half) (s : State) : (s.respond st d).reg = s.reg := rfl
@[simp] theorem State.respond_flipNum (st : Status) (d : Half) (s : State) :
    (s.respond st d).flipNum = s.flipNum := rfl
@[simp] theorem State.respond_rangeIndex (st : Status) (d : Half) (s : State) :
    (s.respond st d).rangeIndex = s.rangeIndex := rfl
@[simp] theorem State.respond_rangeDivisor (st : Status) (d : Half) (s : State) :
    (s.respond st d).rangeDivisor = s.rangeDivisor := rfl
@[simp] theorem State.respond_scaleSel (st : Status) (d : Half) (s : State) :
    (s.respond st d).scaleSel = s.scaleSel := rfl
@[simp] theorem State.respond_octave (st : Status) (d : Half) (s : State) :
    (s.respond st d).octave = s.octave := rfl
@[simp] theorem State.respond_semitone (st : Status) (d : Half) (s : State) :
    (s.respond st d).semitone = s.semitone := rfl
@[simp] theorem State.respond_fault (st : Status) (d : Half) (s : State) :
    (s.respond st d).fault = s.fault := rfl
@[simp] theorem State.respond_faultCause (st : Status) (d : Half) (s : State) :
    (s.respond st d).faultCause = s.faultCause := rfl
@[simp] theorem State.respond_dacLast (st : Status) (d : Half) (s : State) :
    (s.respond st d).dacLast = s.dacLast := rfl
@[simp] theorem State.respond_outHistory (st : Status) (d : Half) (s : State) :
    (s.respond st d).outHistory = s.outHistory := rfl
@[simp] theorem State.respond_cfg (st : Status) (d : Half) (s : State) : (s.respond st d).cfg = s.cfg := rfl
@[simp] theorem State.respond_arrivals (st : Status) (d : Half) (s : State) :
    (s.respond st d).arrivals = s.arrivals := rfl
@[simp] theorem State.respond_sampleAnswers (st : Status) (d : Half) (s : State) :
    (s.respond st d).sampleAnswers = s.sampleAnswers := rfl
@[simp] theorem State.respond_drawAnswers (st : Status) (d : Half) (s : State) :
    (s.respond st d).drawAnswers = s.drawAnswers := rfl
@[simp] theorem State.respond_reads (st : Status) (d : Half) (s : State) :
    (s.respond st d).reads = s.reads := rfl
@[simp] theorem State.respond_draws (st : Status) (d : Half) (s : State) :
    (s.respond st d).draws = s.draws := rfl
@[simp] theorem State.respond_ties (st : Status) (d : Half) (s : State) :
    (s.respond st d).ties = s.ties := rfl
@[simp] theorem State.respond_trace (st : Status) (d : Half) (s : State) :
    (s.respond st d).trace = s.trace ++ [.rsp ⟨st, d⟩] := rfl

/-! ### `State.refuse` -/

@[simp] theorem State.refuse_lastSample (s : State) : (s.refuse).lastSample = s.lastSample := rfl
@[simp] theorem State.refuse_edgeCounter (s : State) : (s.refuse).edgeCounter = s.edgeCounter := rfl
@[simp] theorem State.refuse_divisor (s : State) : (s.refuse).divisor = s.divisor := rfl
@[simp] theorem State.refuse_bufferedOutput (s : State) : (s.refuse).bufferedOutput = s.bufferedOutput := rfl
@[simp] theorem State.refuse_tickFlag (s : State) : (s.refuse).tickFlag = s.tickFlag := rfl
@[simp] theorem State.refuse_cfgPol (s : State) : (s.refuse).cfgPol = s.cfgPol := rfl
@[simp] theorem State.refuse_hystLow (s : State) : (s.refuse).hystLow = s.hystLow := rfl
@[simp] theorem State.refuse_hystHigh (s : State) : (s.refuse).hystHigh = s.hystHigh := rfl
@[simp] theorem State.refuse_rateHz (s : State) : (s.refuse).rateHz = s.rateHz := rfl
@[simp] theorem State.refuse_configured (s : State) : (s.refuse).configured = s.configured := rfl
@[simp] theorem State.refuse_running (s : State) : (s.refuse).running = s.running := rfl
@[simp] theorem State.refuse_auxSample (s : State) : (s.refuse).auxSample = s.auxSample := rfl
@[simp] theorem State.refuse_reg (s : State) : (s.refuse).reg = s.reg := rfl
@[simp] theorem State.refuse_flipNum (s : State) : (s.refuse).flipNum = s.flipNum := rfl
@[simp] theorem State.refuse_rangeIndex (s : State) : (s.refuse).rangeIndex = s.rangeIndex := rfl
@[simp] theorem State.refuse_rangeDivisor (s : State) : (s.refuse).rangeDivisor = s.rangeDivisor := rfl
@[simp] theorem State.refuse_scaleSel (s : State) : (s.refuse).scaleSel = s.scaleSel := rfl
@[simp] theorem State.refuse_octave (s : State) : (s.refuse).octave = s.octave := rfl
@[simp] theorem State.refuse_semitone (s : State) : (s.refuse).semitone = s.semitone := rfl
@[simp] theorem State.refuse_fault (s : State) : (s.refuse).fault = s.fault := rfl
@[simp] theorem State.refuse_faultCause (s : State) : (s.refuse).faultCause = s.faultCause := rfl
@[simp] theorem State.refuse_dacLast (s : State) : (s.refuse).dacLast = s.dacLast := rfl
@[simp] theorem State.refuse_outHistory (s : State) : (s.refuse).outHistory = s.outHistory := rfl
@[simp] theorem State.refuse_cfg (s : State) : (s.refuse).cfg = s.cfg := rfl
@[simp] theorem State.refuse_arrivals (s : State) : (s.refuse).arrivals = s.arrivals := rfl
@[simp] theorem State.refuse_sampleAnswers (s : State) : (s.refuse).sampleAnswers = s.sampleAnswers := rfl
@[simp] theorem State.refuse_drawAnswers (s : State) : (s.refuse).drawAnswers = s.drawAnswers := rfl
@[simp] theorem State.refuse_reads (s : State) : (s.refuse).reads = s.reads := rfl
@[simp] theorem State.refuse_draws (s : State) : (s.refuse).draws = s.draws := rfl
@[simp] theorem State.refuse_ties (s : State) : (s.refuse).ties = s.ties := rfl
@[simp] theorem State.refuse_trace (s : State) :
    (s.refuse).trace = s.trace ++ [.rsp ⟨.refused, (causeCode s.faultCause).setWidth 16⟩] := rfl

/-! ### `State.raise` -/

@[simp] theorem State.raise_lastSample (c : Cause) (s : State) : (s.raise c).lastSample = s.lastSample := rfl
@[simp] theorem State.raise_edgeCounter (c : Cause) (s : State) :
    (s.raise c).edgeCounter = s.edgeCounter := rfl
@[simp] theorem State.raise_divisor (c : Cause) (s : State) : (s.raise c).divisor = s.divisor := rfl
@[simp] theorem State.raise_bufferedOutput (c : Cause) (s : State) :
    (s.raise c).bufferedOutput = s.bufferedOutput := rfl
@[simp] theorem State.raise_tickFlag (c : Cause) (s : State) : (s.raise c).tickFlag = s.tickFlag := rfl
@[simp] theorem State.raise_cfgPol (c : Cause) (s : State) : (s.raise c).cfgPol = s.cfgPol := rfl
@[simp] theorem State.raise_hystLow (c : Cause) (s : State) : (s.raise c).hystLow = s.hystLow := rfl
@[simp] theorem State.raise_hystHigh (c : Cause) (s : State) : (s.raise c).hystHigh = s.hystHigh := rfl
@[simp] theorem State.raise_rateHz (c : Cause) (s : State) : (s.raise c).rateHz = s.rateHz := rfl
@[simp] theorem State.raise_configured (c : Cause) (s : State) : (s.raise c).configured = s.configured := rfl
@[simp] theorem State.raise_running (c : Cause) (s : State) : (s.raise c).running = false := rfl
@[simp] theorem State.raise_auxSample (c : Cause) (s : State) : (s.raise c).auxSample = s.auxSample := rfl
@[simp] theorem State.raise_reg (c : Cause) (s : State) : (s.raise c).reg = s.reg := rfl
@[simp] theorem State.raise_flipNum (c : Cause) (s : State) : (s.raise c).flipNum = s.flipNum := rfl
@[simp] theorem State.raise_rangeIndex (c : Cause) (s : State) : (s.raise c).rangeIndex = s.rangeIndex := rfl
@[simp] theorem State.raise_rangeDivisor (c : Cause) (s : State) :
    (s.raise c).rangeDivisor = s.rangeDivisor := rfl
@[simp] theorem State.raise_scaleSel (c : Cause) (s : State) : (s.raise c).scaleSel = s.scaleSel := rfl
@[simp] theorem State.raise_octave (c : Cause) (s : State) : (s.raise c).octave = s.octave := rfl
@[simp] theorem State.raise_semitone (c : Cause) (s : State) : (s.raise c).semitone = s.semitone := rfl
@[simp] theorem State.raise_fault (c : Cause) (s : State) : (s.raise c).fault = true := rfl
@[simp] theorem State.raise_faultCause (c : Cause) (s : State) : (s.raise c).faultCause = some c := rfl
@[simp] theorem State.raise_dacLast (c : Cause) (s : State) : (s.raise c).dacLast = s.dacLast := rfl
@[simp] theorem State.raise_outHistory (c : Cause) (s : State) : (s.raise c).outHistory = s.outHistory := rfl
@[simp] theorem State.raise_cfg (c : Cause) (s : State) : (s.raise c).cfg = s.cfg := rfl
@[simp] theorem State.raise_arrivals (c : Cause) (s : State) : (s.raise c).arrivals = s.arrivals := rfl
@[simp] theorem State.raise_sampleAnswers (c : Cause) (s : State) :
    (s.raise c).sampleAnswers = s.sampleAnswers := rfl
@[simp] theorem State.raise_drawAnswers (c : Cause) (s : State) :
    (s.raise c).drawAnswers = s.drawAnswers := rfl
@[simp] theorem State.raise_reads (c : Cause) (s : State) : (s.raise c).reads = s.reads := rfl
@[simp] theorem State.raise_draws (c : Cause) (s : State) : (s.raise c).draws = s.draws := rfl
@[simp] theorem State.raise_ties (c : Cause) (s : State) : (s.raise c).ties = s.ties := rfl
@[simp] theorem State.raise_trace (c : Cause) (s : State) :
    (s.raise c).trace = s.trace ++ [.timerStop] ++ [.rsp ⟨.fault, c.code.setWidth 16⟩] := rfl

/-! ### `State.ioWrite` -/

@[simp] theorem State.ioWrite_lastSample (c : Code) (s : State) :
    (s.ioWrite c).lastSample = s.lastSample := rfl
@[simp] theorem State.ioWrite_edgeCounter (c : Code) (s : State) :
    (s.ioWrite c).edgeCounter = s.edgeCounter := rfl
@[simp] theorem State.ioWrite_divisor (c : Code) (s : State) : (s.ioWrite c).divisor = s.divisor := rfl
@[simp] theorem State.ioWrite_bufferedOutput (c : Code) (s : State) :
    (s.ioWrite c).bufferedOutput = s.bufferedOutput := rfl
@[simp] theorem State.ioWrite_tickFlag (c : Code) (s : State) : (s.ioWrite c).tickFlag = s.tickFlag := rfl
@[simp] theorem State.ioWrite_cfgPol (c : Code) (s : State) : (s.ioWrite c).cfgPol = s.cfgPol := rfl
@[simp] theorem State.ioWrite_hystLow (c : Code) (s : State) : (s.ioWrite c).hystLow = s.hystLow := rfl
@[simp] theorem State.ioWrite_hystHigh (c : Code) (s : State) : (s.ioWrite c).hystHigh = s.hystHigh := rfl
@[simp] theorem State.ioWrite_rateHz (c : Code) (s : State) : (s.ioWrite c).rateHz = s.rateHz := rfl
@[simp] theorem State.ioWrite_configured (c : Code) (s : State) :
    (s.ioWrite c).configured = s.configured := rfl
@[simp] theorem State.ioWrite_running (c : Code) (s : State) : (s.ioWrite c).running = s.running := rfl
@[simp] theorem State.ioWrite_auxSample (c : Code) (s : State) : (s.ioWrite c).auxSample = s.auxSample := rfl
@[simp] theorem State.ioWrite_reg (c : Code) (s : State) : (s.ioWrite c).reg = s.reg := rfl
@[simp] theorem State.ioWrite_flipNum (c : Code) (s : State) : (s.ioWrite c).flipNum = s.flipNum := rfl
@[simp] theorem State.ioWrite_rangeIndex (c : Code) (s : State) :
    (s.ioWrite c).rangeIndex = s.rangeIndex := rfl
@[simp] theorem State.ioWrite_rangeDivisor (c : Code) (s : State) :
    (s.ioWrite c).rangeDivisor = s.rangeDivisor := rfl
@[simp] theorem State.ioWrite_scaleSel (c : Code) (s : State) : (s.ioWrite c).scaleSel = s.scaleSel := rfl
@[simp] theorem State.ioWrite_octave (c : Code) (s : State) : (s.ioWrite c).octave = s.octave := rfl
@[simp] theorem State.ioWrite_semitone (c : Code) (s : State) : (s.ioWrite c).semitone = s.semitone := rfl
@[simp] theorem State.ioWrite_fault (c : Code) (s : State) : (s.ioWrite c).fault = s.fault := rfl
@[simp] theorem State.ioWrite_faultCause (c : Code) (s : State) :
    (s.ioWrite c).faultCause = s.faultCause := rfl
@[simp] theorem State.ioWrite_dacLast (c : Code) (s : State) : (s.ioWrite c).dacLast = some c := rfl
@[simp] theorem State.ioWrite_outHistory (c : Code) (s : State) :
    (s.ioWrite c).outHistory = s.outHistory ++ [c] := rfl
@[simp] theorem State.ioWrite_cfg (c : Code) (s : State) : (s.ioWrite c).cfg = s.cfg := rfl
@[simp] theorem State.ioWrite_arrivals (c : Code) (s : State) : (s.ioWrite c).arrivals = s.arrivals := rfl
@[simp] theorem State.ioWrite_sampleAnswers (c : Code) (s : State) :
    (s.ioWrite c).sampleAnswers = s.sampleAnswers := rfl
@[simp] theorem State.ioWrite_drawAnswers (c : Code) (s : State) :
    (s.ioWrite c).drawAnswers = s.drawAnswers := rfl
@[simp] theorem State.ioWrite_reads (c : Code) (s : State) : (s.ioWrite c).reads = s.reads := rfl
@[simp] theorem State.ioWrite_draws (c : Code) (s : State) : (s.ioWrite c).draws = s.draws := rfl
@[simp] theorem State.ioWrite_ties (c : Code) (s : State) : (s.ioWrite c).ties = s.ties := rfl
@[simp] theorem State.ioWrite_trace (c : Code) (s : State) :
    (s.ioWrite c).trace = s.trace ++ [.ioWrite c] := rfl

/-! ### `State.trigger` -/

@[simp] theorem State.trigger_lastSample (s : State) : (s.trigger).lastSample = s.lastSample := rfl
@[simp] theorem State.trigger_edgeCounter (s : State) : (s.trigger).edgeCounter = 0 := rfl
@[simp] theorem State.trigger_divisor (s : State) : (s.trigger).divisor = s.divisor := rfl
@[simp] theorem State.trigger_bufferedOutput (s : State) :
    (s.trigger).bufferedOutput = s.bufferedOutput := rfl
@[simp] theorem State.trigger_tickFlag (s : State) : (s.trigger).tickFlag = true := rfl
@[simp] theorem State.trigger_cfgPol (s : State) : (s.trigger).cfgPol = s.cfgPol := rfl
@[simp] theorem State.trigger_hystLow (s : State) : (s.trigger).hystLow = s.hystLow := rfl
@[simp] theorem State.trigger_hystHigh (s : State) : (s.trigger).hystHigh = s.hystHigh := rfl
@[simp] theorem State.trigger_rateHz (s : State) : (s.trigger).rateHz = s.rateHz := rfl
@[simp] theorem State.trigger_configured (s : State) : (s.trigger).configured = s.configured := rfl
@[simp] theorem State.trigger_running (s : State) : (s.trigger).running = s.running := rfl
@[simp] theorem State.trigger_auxSample (s : State) : (s.trigger).auxSample = s.auxSample := rfl
@[simp] theorem State.trigger_reg (s : State) : (s.trigger).reg = s.reg := rfl
@[simp] theorem State.trigger_flipNum (s : State) : (s.trigger).flipNum = s.flipNum := rfl
@[simp] theorem State.trigger_rangeIndex (s : State) : (s.trigger).rangeIndex = s.rangeIndex := rfl
@[simp] theorem State.trigger_rangeDivisor (s : State) : (s.trigger).rangeDivisor = s.rangeDivisor := rfl
@[simp] theorem State.trigger_scaleSel (s : State) : (s.trigger).scaleSel = s.scaleSel := rfl
@[simp] theorem State.trigger_octave (s : State) : (s.trigger).octave = s.octave := rfl
@[simp] theorem State.trigger_semitone (s : State) : (s.trigger).semitone = s.semitone := rfl
@[simp] theorem State.trigger_fault (s : State) : (s.trigger).fault = s.fault := rfl
@[simp] theorem State.trigger_faultCause (s : State) : (s.trigger).faultCause = s.faultCause := rfl
@[simp] theorem State.trigger_dacLast (s : State) : (s.trigger).dacLast = some s.bufferedOutput := rfl
@[simp] theorem State.trigger_outHistory (s : State) :
    (s.trigger).outHistory = s.outHistory ++ [s.bufferedOutput] := rfl
@[simp] theorem State.trigger_cfg (s : State) : (s.trigger).cfg = s.cfg := rfl
@[simp] theorem State.trigger_arrivals (s : State) : (s.trigger).arrivals = s.arrivals := rfl
@[simp] theorem State.trigger_sampleAnswers (s : State) : (s.trigger).sampleAnswers = s.sampleAnswers := rfl
@[simp] theorem State.trigger_drawAnswers (s : State) : (s.trigger).drawAnswers = s.drawAnswers := rfl
@[simp] theorem State.trigger_reads (s : State) : (s.trigger).reads = s.reads := rfl
@[simp] theorem State.trigger_draws (s : State) : (s.trigger).draws = s.draws := rfl
@[simp] theorem State.trigger_ties (s : State) : (s.trigger).ties = s.ties := rfl
@[simp] theorem State.trigger_trace (s : State) :
    (s.trigger).trace = s.trace ++ [.ioWrite s.bufferedOutput] := rfl

/-! ### `State.afterRead` -/

@[simp] theorem State.afterRead_lastSample (ch : Int) (s : State) :
    (s.afterRead ch).lastSample = s.lastSample := rfl
@[simp] theorem State.afterRead_edgeCounter (ch : Int) (s : State) :
    (s.afterRead ch).edgeCounter = s.edgeCounter := rfl
@[simp] theorem State.afterRead_divisor (ch : Int) (s : State) : (s.afterRead ch).divisor = s.divisor := rfl
@[simp] theorem State.afterRead_bufferedOutput (ch : Int) (s : State) :
    (s.afterRead ch).bufferedOutput = s.bufferedOutput := rfl
@[simp] theorem State.afterRead_tickFlag (ch : Int) (s : State) :
    (s.afterRead ch).tickFlag = s.tickFlag := rfl
@[simp] theorem State.afterRead_cfgPol (ch : Int) (s : State) : (s.afterRead ch).cfgPol = s.cfgPol := rfl
@[simp] theorem State.afterRead_hystLow (ch : Int) (s : State) : (s.afterRead ch).hystLow = s.hystLow := rfl
@[simp] theorem State.afterRead_hystHigh (ch : Int) (s : State) :
    (s.afterRead ch).hystHigh = s.hystHigh := rfl
@[simp] theorem State.afterRead_rateHz (ch : Int) (s : State) : (s.afterRead ch).rateHz = s.rateHz := rfl
@[simp] theorem State.afterRead_configured (ch : Int) (s : State) :
    (s.afterRead ch).configured = s.configured := rfl
@[simp] theorem State.afterRead_running (ch : Int) (s : State) : (s.afterRead ch).running = s.running := rfl
@[simp] theorem State.afterRead_auxSample (ch : Int) (s : State) :
    (s.afterRead ch).auxSample = s.auxSample := rfl
@[simp] theorem State.afterRead_reg (ch : Int) (s : State) : (s.afterRead ch).reg = s.reg := rfl
@[simp] theorem State.afterRead_flipNum (ch : Int) (s : State) : (s.afterRead ch).flipNum = s.flipNum := rfl
@[simp] theorem State.afterRead_rangeIndex (ch : Int) (s : State) :
    (s.afterRead ch).rangeIndex = s.rangeIndex := rfl
@[simp] theorem State.afterRead_rangeDivisor (ch : Int) (s : State) :
    (s.afterRead ch).rangeDivisor = s.rangeDivisor := rfl
@[simp] theorem State.afterRead_scaleSel (ch : Int) (s : State) :
    (s.afterRead ch).scaleSel = s.scaleSel := rfl
@[simp] theorem State.afterRead_octave (ch : Int) (s : State) : (s.afterRead ch).octave = s.octave := rfl
@[simp] theorem State.afterRead_semitone (ch : Int) (s : State) :
    (s.afterRead ch).semitone = s.semitone := rfl
@[simp] theorem State.afterRead_fault (ch : Int) (s : State) : (s.afterRead ch).fault = s.fault := rfl
@[simp] theorem State.afterRead_faultCause (ch : Int) (s : State) :
    (s.afterRead ch).faultCause = s.faultCause := rfl
@[simp] theorem State.afterRead_dacLast (ch : Int) (s : State) : (s.afterRead ch).dacLast = s.dacLast := rfl
@[simp] theorem State.afterRead_outHistory (ch : Int) (s : State) :
    (s.afterRead ch).outHistory = s.outHistory := rfl
@[simp] theorem State.afterRead_cfg (ch : Int) (s : State) : (s.afterRead ch).cfg = s.cfg := rfl
@[simp] theorem State.afterRead_arrivals (ch : Int) (s : State) :
    (s.afterRead ch).arrivals = s.arrivals := rfl
@[simp] theorem State.afterRead_sampleAnswers (ch : Int) (s : State) :
    (s.afterRead ch).sampleAnswers = s.sampleAnswers.tail := rfl
@[simp] theorem State.afterRead_drawAnswers (ch : Int) (s : State) :
    (s.afterRead ch).drawAnswers = s.drawAnswers := rfl
@[simp] theorem State.afterRead_reads (ch : Int) (s : State) : (s.afterRead ch).reads = s.reads + 1 := rfl
@[simp] theorem State.afterRead_draws (ch : Int) (s : State) : (s.afterRead ch).draws = s.draws := rfl
@[simp] theorem State.afterRead_ties (ch : Int) (s : State) : (s.afterRead ch).ties = s.ties := rfl
@[simp] theorem State.afterRead_trace (ch : Int) (s : State) :
    (s.afterRead ch).trace = s.trace ++ [.ioRead ch s.nextSample] := rfl

/-! ### `State.afterDraw` -/

@[simp] theorem State.afterDraw_lastSample (s : State) : (s.afterDraw).lastSample = s.lastSample := rfl
@[simp] theorem State.afterDraw_edgeCounter (s : State) : (s.afterDraw).edgeCounter = s.edgeCounter := rfl
@[simp] theorem State.afterDraw_divisor (s : State) : (s.afterDraw).divisor = s.divisor := rfl
@[simp] theorem State.afterDraw_bufferedOutput (s : State) :
    (s.afterDraw).bufferedOutput = s.bufferedOutput := rfl
@[simp] theorem State.afterDraw_tickFlag (s : State) : (s.afterDraw).tickFlag = s.tickFlag := rfl
@[simp] theorem State.afterDraw_cfgPol (s : State) : (s.afterDraw).cfgPol = s.cfgPol := rfl
@[simp] theorem State.afterDraw_hystLow (s : State) : (s.afterDraw).hystLow = s.hystLow := rfl
@[simp] theorem State.afterDraw_hystHigh (s : State) : (s.afterDraw).hystHigh = s.hystHigh := rfl
@[simp] theorem State.afterDraw_rateHz (s : State) : (s.afterDraw).rateHz = s.rateHz := rfl
@[simp] theorem State.afterDraw_configured (s : State) : (s.afterDraw).configured = s.configured := rfl
@[simp] theorem State.afterDraw_running (s : State) : (s.afterDraw).running = s.running := rfl
@[simp] theorem State.afterDraw_auxSample (s : State) : (s.afterDraw).auxSample = s.auxSample := rfl
@[simp] theorem State.afterDraw_reg (s : State) : (s.afterDraw).reg = s.reg := rfl
@[simp] theorem State.afterDraw_flipNum (s : State) : (s.afterDraw).flipNum = s.flipNum := rfl
@[simp] theorem State.afterDraw_rangeIndex (s : State) : (s.afterDraw).rangeIndex = s.rangeIndex := rfl
@[simp] theorem State.afterDraw_rangeDivisor (s : State) : (s.afterDraw).rangeDivisor = s.rangeDivisor := rfl
@[simp] theorem State.afterDraw_scaleSel (s : State) : (s.afterDraw).scaleSel = s.scaleSel := rfl
@[simp] theorem State.afterDraw_octave (s : State) : (s.afterDraw).octave = s.octave := rfl
@[simp] theorem State.afterDraw_semitone (s : State) : (s.afterDraw).semitone = s.semitone := rfl
@[simp] theorem State.afterDraw_fault (s : State) : (s.afterDraw).fault = s.fault := rfl
@[simp] theorem State.afterDraw_faultCause (s : State) : (s.afterDraw).faultCause = s.faultCause := rfl
@[simp] theorem State.afterDraw_dacLast (s : State) : (s.afterDraw).dacLast = s.dacLast := rfl
@[simp] theorem State.afterDraw_outHistory (s : State) : (s.afterDraw).outHistory = s.outHistory := rfl
@[simp] theorem State.afterDraw_cfg (s : State) : (s.afterDraw).cfg = s.cfg := rfl
@[simp] theorem State.afterDraw_arrivals (s : State) : (s.afterDraw).arrivals = s.arrivals := rfl
@[simp] theorem State.afterDraw_sampleAnswers (s : State) :
    (s.afterDraw).sampleAnswers = s.sampleAnswers := rfl
@[simp] theorem State.afterDraw_drawAnswers (s : State) :
    (s.afterDraw).drawAnswers = s.drawAnswers.tail := rfl
@[simp] theorem State.afterDraw_reads (s : State) : (s.afterDraw).reads = s.reads := rfl
@[simp] theorem State.afterDraw_draws (s : State) : (s.afterDraw).draws = s.draws + 1 := rfl
@[simp] theorem State.afterDraw_ties (s : State) : (s.afterDraw).ties = s.ties := rfl
@[simp] theorem State.afterDraw_trace (s : State) : (s.afterDraw).trace = s.trace ++ [.draw s.nextDraw] := rfl

/-! ### `State.logged` -/

@[simp] theorem State.logged_lastSample (es : List PortEvent) (s : State) :
    (s.logged es).lastSample = s.lastSample := rfl
@[simp] theorem State.logged_edgeCounter (es : List PortEvent) (s : State) :
    (s.logged es).edgeCounter = s.edgeCounter := rfl
@[simp] theorem State.logged_divisor (es : List PortEvent) (s : State) :
    (s.logged es).divisor = s.divisor := rfl
@[simp] theorem State.logged_bufferedOutput (es : List PortEvent) (s : State) :
    (s.logged es).bufferedOutput = s.bufferedOutput := rfl
@[simp] theorem State.logged_tickFlag (es : List PortEvent) (s : State) :
    (s.logged es).tickFlag = s.tickFlag := rfl
@[simp] theorem State.logged_cfgPol (es : List PortEvent) (s : State) : (s.logged es).cfgPol = s.cfgPol := rfl
@[simp] theorem State.logged_hystLow (es : List PortEvent) (s : State) :
    (s.logged es).hystLow = s.hystLow := rfl
@[simp] theorem State.logged_hystHigh (es : List PortEvent) (s : State) :
    (s.logged es).hystHigh = s.hystHigh := rfl
@[simp] theorem State.logged_rateHz (es : List PortEvent) (s : State) : (s.logged es).rateHz = s.rateHz := rfl
@[simp] theorem State.logged_configured (es : List PortEvent) (s : State) :
    (s.logged es).configured = s.configured := rfl
@[simp] theorem State.logged_running (es : List PortEvent) (s : State) :
    (s.logged es).running = s.running := rfl
@[simp] theorem State.logged_auxSample (es : List PortEvent) (s : State) :
    (s.logged es).auxSample = s.auxSample := rfl
@[simp] theorem State.logged_reg (es : List PortEvent) (s : State) : (s.logged es).reg = s.reg := rfl
@[simp] theorem State.logged_flipNum (es : List PortEvent) (s : State) :
    (s.logged es).flipNum = s.flipNum := rfl
@[simp] theorem State.logged_rangeIndex (es : List PortEvent) (s : State) :
    (s.logged es).rangeIndex = s.rangeIndex := rfl
@[simp] theorem State.logged_rangeDivisor (es : List PortEvent) (s : State) :
    (s.logged es).rangeDivisor = s.rangeDivisor := rfl
@[simp] theorem State.logged_scaleSel (es : List PortEvent) (s : State) :
    (s.logged es).scaleSel = s.scaleSel := rfl
@[simp] theorem State.logged_octave (es : List PortEvent) (s : State) : (s.logged es).octave = s.octave := rfl
@[simp] theorem State.logged_semitone (es : List PortEvent) (s : State) :
    (s.logged es).semitone = s.semitone := rfl
@[simp] theorem State.logged_fault (es : List PortEvent) (s : State) : (s.logged es).fault = s.fault := rfl
@[simp] theorem State.logged_faultCause (es : List PortEvent) (s : State) :
    (s.logged es).faultCause = s.faultCause := rfl
@[simp] theorem State.logged_dacLast (es : List PortEvent) (s : State) :
    (s.logged es).dacLast = s.dacLast := rfl
@[simp] theorem State.logged_outHistory (es : List PortEvent) (s : State) :
    (s.logged es).outHistory = s.outHistory := rfl
@[simp] theorem State.logged_cfg (es : List PortEvent) (s : State) : (s.logged es).cfg = s.cfg := rfl
@[simp] theorem State.logged_arrivals (es : List PortEvent) (s : State) :
    (s.logged es).arrivals = s.arrivals := rfl
@[simp] theorem State.logged_sampleAnswers (es : List PortEvent) (s : State) :
    (s.logged es).sampleAnswers = s.sampleAnswers := rfl
@[simp] theorem State.logged_drawAnswers (es : List PortEvent) (s : State) :
    (s.logged es).drawAnswers = s.drawAnswers := rfl
@[simp] theorem State.logged_reads (es : List PortEvent) (s : State) : (s.logged es).reads = s.reads := rfl
@[simp] theorem State.logged_draws (es : List PortEvent) (s : State) : (s.logged es).draws = s.draws := rfl
@[simp] theorem State.logged_ties (es : List PortEvent) (s : State) : (s.logged es).ties = s.ties := rfl
@[simp] theorem State.logged_trace (es : List PortEvent) (s : State) :
    (s.logged es).trace = s.trace ++ es := rfl

end Sys2Proof.Machine
end

