-- ==== Sys2Proof/Laws/Ops.lean ====
section
/-!
SUPPORT. What each shared operation can do, said once: the prologue of a command, the exception, the endings
of a command, the next event and the step, the trigger, the tables and the operand forms.
-/

namespace Sys2Proof.Machine

/-! ### Ending a command -/

@[simp] theorem State.logged_nil (s : State) : s.logged [] = s := by simp [State.logged]

@[simp] theorem State.logged_logged (s : State) (es fs : List PortEvent) :
    (s.logged es).logged fs = s.logged (es ++ fs) := by simp [State.logged]

theorem State.emit_eq_logged (e : PortEvent) (s : State) : s.emit e = s.logged [e] := rfl

theorem State.respond_eq_logged (st : Status) (d : Half) (s : State) :
    s.respond st d = s.logged [.rsp ⟨st, d⟩] := rfl

theorem State.done_eq (s : State) : s.done = .next (s.logged [okRsp 0]) := rfl

theorem State.answer_eq (d : Half) (s : State) : s.answer d = .next (s.logged [okRsp d]) := rfl

/-- The exception is its written-out effect (spec/60 R143). -/
theorem State.raise_eq_withError (c : Cause) (s : State) : s.raise c = s.withError c := by
  simp [State.raise, State.withError, State.emit, State.respond]

/-! ### The prologue -/

theorem State.command_of_fault {s : State} (h : s.fault = true) (body : State → Answer) :
    s.command body = .next s.refuse := by simp [State.command, h]

theorem State.command_of_ok {s : State} (h : s.fault = false) (body : State → Answer) :
    s.command body = body s := by simp [State.command, h]

/-- A command that answers a next state was refused, or its own rule answered it. -/
theorem State.command_next {s t : State} {body : State → Answer} (h : s.command body = .next t) :
    (s.fault = true ∧ t = s.refuse) ∨ (s.fault = false ∧ body s = .next t) := by
  cases hf : s.fault with
  | true => rw [command_of_fault hf] at h; injection h with h; exact .inl ⟨rfl, h.symm⟩
  | false => rw [command_of_ok hf] at h; exact .inr ⟨rfl, h⟩

/-! ### Events and the step -/

/-- The next event is served in a state that differs in `arrivals` and `ties` alone. -/
theorem State.nextEvent_state {s t : State} {e : Strobe} (h : s.nextEvent = some (e, t)) :
    t = { s with arrivals := t.arrivals, ties := t.ties } := by
  unfold State.nextEvent at h
  split at h
  · cases h
  · cases h; rfl
  · split at h <;> (cases h; rfl)

/-- The reset strobe is served only when it stands alone at the head of the queue. -/
theorem State.nextEvent_reset {s t : State} (h : s.nextEvent = some (.reset, t)) :
    ∃ rest, s.arrivals = .one .reset :: rest ∧ t = { s with arrivals := rest } := by
  unfold State.nextEvent at h
  split at h
  · cases h
  · next e rest he => cases h; exact ⟨rest, he, rfl⟩
  · split at h <;> cases h

/-- Everything a step that answers a next state can have done. -/
theorem step_cases {s t : State} (h : step s = .next t) :
    (s.nextEvent = none ∧ t = s) ∨
    ∃ e u, s.nextEvent = some (e, u) ∧
      ((e = .reset ∧ t = u.resetStrobe) ∨
        (∃ p i, e = .port p ∧ decodePort p = some i ∧ exec i u = .next t) ∨
        (∃ p, e = .port p ∧ decodePort p = none ∧ t = u.undecoded p)) := by
  unfold step fetch at h
  cases hn : s.nextEvent with
  | none => simp only [hn] at h; cases h; exact .inl ⟨rfl, rfl⟩
  | some eu =>
    obtain ⟨e, u⟩ := eu
    refine .inr ⟨e, u, rfl, ?_⟩
    simp only [hn] at h
    cases e with
    | reset => cases h; exact .inl ⟨rfl, rfl⟩
    | port p =>
      cases hd : decodePort p with
      | some i => simp only [serve, hd] at h; exact .inr (.inl ⟨p, i, rfl, hd, h⟩)
      | none => simp only [serve, hd] at h; cases h; exact .inr (.inr ⟨p, rfl, hd, rfl⟩)

/-! ### The clock engine -/

/-- A qualifying edge triggers or is counted. -/
theorem State.countEdge_cases (s : State) :
    (s.edgeCounter.toNat + 1 = s.divisor.toNat ∧ s.countEdge = s.trigger) ∨
    (s.edgeCounter.toNat + 1 ≠ s.divisor.toNat ∧
      s.countEdge = { s with edgeCounter := s.edgeCounter + 1 }) := by
  unfold State.countEdge
  split
  · next h => exact .inl ⟨h, rfl⟩
  · next h => exact .inr ⟨h, rfl⟩

/-- The clock half of a performed SAMPLE, by what the edge test and the division say. -/
theorem State.sampleClock_cases (s : State) :
    (s.edgeNext = false ∧
      s.sampleClock = { s.afterRead s.cfg.clkChannel with lastSample := s.nextSample }) ∨
    (s.edgeNext = true ∧ s.triggerNext = false ∧
      s.sampleClock = { s.afterRead s.cfg.clkChannel with
        lastSample := s.nextSample, edgeCounter := s.edgeCounter + 1 }) ∨
    (s.edgeNext = true ∧ s.triggerNext = true ∧
      s.sampleClock = { (s.afterRead s.cfg.clkChannel).trigger with lastSample := s.nextSample }) := by
  cases he : s.edgeNext with
  | false => exact .inl ⟨rfl, by simp only [State.edgeNext] at he; simp [State.sampleClock, he]⟩
  | true =>
    have he' : s.edge s.lastSample s.nextSample = true := he
    rcases State.countEdge_cases (s.afterRead s.cfg.clkChannel) with ⟨h, hc⟩ | ⟨h, hc⟩
    · refine .inr (.inr ⟨rfl, ?_, by simp [State.sampleClock, he', hc]⟩)
      simpa [State.triggerNext, he] using h
    · refine .inr (.inl ⟨rfl, ?_, by simp [State.sampleClock, he', hc]⟩)
      simpa [State.triggerNext, he] using h

/-! ### Operands and tables -/

theorem fitsRes_iff (v : Half) : fitsRes v = true ↔ v.toNat < 2 ^ RES := by simp [fitsRes]

theorem lowRes_toNat {v : Half} (h : v.toNat < 2 ^ RES) : (lowRes v).toNat = v.toNat := by
  simp only [lowRes, BitVec.extractLsb'_toNat, Nat.shiftRight_zero]
  exact Nat.mod_eq_of_lt h

theorem zextRes_toNat (v : BitVec 12) : (zextRes v).toNat = v.toNat := by
  simp only [zextRes, BitVec.toNat_setWidth]
  exact Nat.mod_eq_of_lt (by have := v.isLt; omega)

theorem zextNibble_toNat (v : BitVec 4) : (zextNibble v).toNat = v.toNat := by
  simp only [zextNibble, BitVec.toNat_setWidth]
  exact Nat.mod_eq_of_lt (by have := v.isLt; omega)

/-- `RomRead(DIVTAB, k)` answers exactly for 0..9 (spec/20 R41). -/
theorem romDivtab_of_lt (c : Config) {k : Nat} (h : k < 10) : c.romDivtab k = some c.divisorTable[k] := by
  simp [Config.romDivtab, h]

theorem romDivtab_of_ge (c : Config) {k : Nat} (h : 10 ≤ k) : c.romDivtab k = none := by
  simp [Config.romDivtab, h]

/-- A legal DIVTAB holds no zero (spec/20 R41). -/
theorem romDivtab_pos {c : Config} (hv : c.Valid) {k : Nat} {d : Half} (h : c.romDivtab k = some d) :
    d ≠ 0 := by
  have hm : d ∈ c.divisorTable.toList := by
    have := Vector.mem_of_getElem? h
    simpa using this
  exact hv.2.1 d hm

/-- The scan of a scale table stops at the first entry that is at least `raw`. -/
theorem snapUp_some {t : Vector (BitVec 4) 8} {raw m : Nat} (h : snapUp t raw = some m) :
    ∃ e ∈ t.toList, e.toNat = m ∧ raw ≤ m := by
  obtain ⟨e, he, rfl⟩ := Option.map_eq_some_iff.mp h
  exact ⟨e, List.mem_of_find?_eq_some he, rfl, by simpa using List.find?_some he⟩

/-- Under a table that ends with the sentinel the scan always finds an entry (spec/42 R122 a). -/
theorem snapUp_isSome {t : Vector (BitVec 4) 8} (ht : ScaleTableOk t) {raw : Nat} (hr : raw ≤ 11) :
    ∃ m, snapUp t raw = some m ∧ m ≤ 12 := by
  have hmem : (12 : BitVec 4) ∈ t.toList := by
    rw [← ht.2.2]; simp
  cases h : t.toList.find? (fun e => decide (raw ≤ e.toNat)) with
  | none =>
    have := List.find?_eq_none.mp h 12 hmem
    simp at this; omega
  | some e =>
    refine ⟨e.toNat, by simp [snapUp, h], ?_⟩
    have := ht.2.1 e (List.mem_of_find?_eq_some h)
    simpa [BitVec.le_def] using this

/-- P0 meets the constraints on the parameters (spec/00 R6, spec/95 section 0). -/
theorem p0_valid : Config.p0.Valid := by
  refine ⟨by decide, by simp [Config.p0], ⟨by simp [Config.p0, Config.numScales], ?_⟩, by decide,
    by decide +kernel, nofun, by decide⟩
  simp only [Config.p0, List.forall_mem_cons, List.not_mem_nil, false_imp_iff, implies_true, and_true]
  exact ⟨⟨by decide, by simp, rfl⟩, by decide, by simp, rfl⟩

end Sys2Proof.Machine
end

