-- ==== Sys2Proof/Laws/Exec.lean ====
section
/-!
SUPPORT. What the dispatch has in common for all instructions: every command runs behind the prologue, and a
SAMPLE is performed or dropped.
-/

namespace Sys2Proof.Machine

/-- Every command is its own rule behind the common prologue (spec/30 R64). -/
theorem exec_command {i : Instr} (hi : i.isCommand = true) (s : State) :
    ∃ body : State → Answer, exec i s = s.command body := by
  cases i
  case sample => cases hi
  all_goals
    simp only [exec, execConfigure, execStart, execStop, execSetDivisor, execSetNextOutput, execHasTicked,
      execAck, execReadAux, execStep, execDeriveNote, execForceBit, execSetFlipProb, execSetRange,
      execSetScale, execSetNote, execGetCode, execGetSemitone]
    exact ⟨_, rfl⟩

/-- In the faulted state a command is refused (spec/60 R144). -/
theorem exec_of_fault {i : Instr} (hi : i.isCommand = true) {s : State} (h : s.fault = true) :
    exec i s = .next s.refuse := by
  obtain ⟨body, hb⟩ := exec_command hi s
  rw [hb, State.command_of_fault h]

/-- A SAMPLE answers a next state in every state (spec/40 R87, spec/60 R149). -/
theorem exec_sample_cases (s : State) :
    (s.running = true ∧ s.fault = false ∧ exec .sample s = .next s.sampleClock.sampleAux) ∨
    ((s.running = false ∨ s.fault = true) ∧ exec .sample s = .next s) := by
  cases hr : s.running <;> cases hf : s.fault <;> simp [exec, execSample, hr, hf]

/-- A command word decodes to a command. -/
theorem decodeCmd_isCommand {w : CmdWord} {i : Instr} (h : decodeCmd w = some i) : i.isCommand = true := by
  cases i
  case sample =>
    simp only [decodeCmd] at h
    split at h <;> simp [decodeN, decodeB, decodeI, decodeC] at h
  all_goals rfl

end Sys2Proof.Machine
end

