-- ==== Sys2Proof/Laws/PerInstr.lean ====
section
/-!
SUPPORT. Statements about every instruction as syntax, one lemma per constructor: the encoding of an
instruction lies in the row of the opcode map that has its mnemonic (spec/30 R61 to R63, R68).
-/

namespace Sys2Proof.Laws

open Sys2Proof

/-- The mask of format B keeps all of a format B word but `b`. -/
theorem encodeB_mask (op : BitVec 8) (b : Bool) :
    encodeB op b &&& 0xFFFFFFFFFFFFFFFE = op ++ (0 : BitVec 55) ++ (0 : BitVec 1) := by
  have hm : (0xFFFFFFFFFFFFFFFE : CmdWord) =
      (BitVec.allOnes 8 ++ BitVec.allOnes 55 ++ (0 : BitVec 1) : BitVec (8 + 55 + 1)) := by decide
  rw [hm, encodeB, BitVec.and_append, BitVec.and_append, BitVec.and_allOnes]
  simp

/-- The mask of format I keeps all of a format I word but `imm`. -/
theorem encodeI_mask (op : BitVec 8) (imm : Half) :
    encodeI op imm &&& 0xFFFFFFFFFFFF0000 = op ++ (0 : BitVec 40) ++ (0 : BitVec 16) := by
  have hm : (0xFFFFFFFFFFFF0000 : CmdWord) =
      (BitVec.allOnes 8 ++ BitVec.allOnes 40 ++ (0 : BitVec 16) : BitVec (8 + 40 + 16)) := by decide
  rw [hm, encodeI, BitVec.and_append, BitVec.and_append, BitVec.and_allOnes]
  simp

/-- The mask of format C keeps the opcode and the zero field. -/
theorem encodeC_mask (op : BitVec 8) (rate : Half) (pol : Polarity) (low high : Half) :
    encodeC op rate pol low high &&& 0xFFFE000000000000 =
      op ++ (0 : BitVec 7) ++ (0 : BitVec 1) ++ (0 : BitVec 16) ++ (0 : BitVec 16) ++ (0 : BitVec 16) := by
  have hm : (0xFFFE000000000000 : CmdWord) =
      (BitVec.allOnes 8 ++ BitVec.allOnes 7 ++ (0 : BitVec 1) ++ (0 : BitVec 16) ++ (0 : BitVec 16) ++
        (0 : BitVec 16) : BitVec (8 + 7 + 1 + 16 + 16 + 16)) := by decide
  rw [hm, encodeC, BitVec.and_append, BitVec.and_append, BitVec.and_append, BitVec.and_append,
    BitVec.and_append, BitVec.and_allOnes]
  simp

/-- The instruction's encoding lies in its own row: a command's word in the row of the opcode map with its
mnemonic, SAMPLE in the row of the `tick` port. -/
def EncodesOwnRow.Statement (i : Instr) : Prop :=
  match encode i with
  | .cmd w => ∃ r ∈ opcodeTable, r.mnemonic = i.mnemonic ∧ r.accepts w = true
  | .tick b => i = .sample ∧ b = 1

theorem EncodesOwnRow.configure (rate : Half) (pol : Polarity) (low high : Half) :
    Statement (.configure rate pol low high) := by
  refine ⟨⟨"CONFIGURE", 0xFFFE000000000000, 0x1000000000000000⟩, by decide, rfl, ?_⟩
  simp only [OpcodeRow.accepts, encodeC_mask]
  decide

theorem EncodesOwnRow.start : Statement .start :=
  ⟨⟨"START", 0xFFFFFFFFFFFFFFFF, 0x1100000000000000⟩, by decide, rfl, by decide⟩

theorem EncodesOwnRow.stop : Statement .stop :=
  ⟨⟨"STOP", 0xFFFFFFFFFFFFFFFF, 0x1200000000000000⟩, by decide, rfl, by decide⟩

theorem EncodesOwnRow.hasTicked : Statement .hasTicked :=
  ⟨⟨"HAS_TICKED", 0xFFFFFFFFFFFFFFFF, 0x1500000000000000⟩, by decide, rfl, by decide⟩

theorem EncodesOwnRow.ack : Statement .ack :=
  ⟨⟨"ACK", 0xFFFFFFFFFFFFFFFF, 0x1600000000000000⟩, by decide, rfl, by decide⟩

theorem EncodesOwnRow.readAux : Statement .readAux :=
  ⟨⟨"READ_AUX", 0xFFFFFFFFFFFFFFFF, 0x1700000000000000⟩, by decide, rfl, by decide⟩

theorem EncodesOwnRow.step : Statement .step :=
  ⟨⟨"STEP", 0xFFFFFFFFFFFFFFFF, 0x2000000000000000⟩, by decide, rfl, by decide⟩

theorem EncodesOwnRow.deriveNote : Statement .deriveNote :=
  ⟨⟨"DERIVE_NOTE", 0xFFFFFFFFFFFFFFFF, 0x2100000000000000⟩, by decide, rfl, by decide⟩

theorem EncodesOwnRow.getCode : Statement .getCode :=
  ⟨⟨"GET_CODE", 0xFFFFFFFFFFFFFFFF, 0x3200000000000000⟩, by decide, rfl, by decide⟩

theorem EncodesOwnRow.getSemitone : Statement .getSemitone :=
  ⟨⟨"GET_SEMITONE", 0xFFFFFFFFFFFFFFFF, 0x3300000000000000⟩, by decide, rfl, by decide⟩

theorem EncodesOwnRow.setDivisor (n : Half) : Statement (.setDivisor n) := by
  refine ⟨⟨"SET_DIVISOR", 0xFFFFFFFFFFFF0000, 0x1300000000000000⟩, by decide, rfl, ?_⟩
  simp only [OpcodeRow.accepts, encodeI_mask]
  decide

theorem EncodesOwnRow.setNextOutput (code : Half) : Statement (.setNextOutput code) := by
  refine ⟨⟨"SET_NEXT_OUTPUT", 0xFFFFFFFFFFFF0000, 0x1400000000000000⟩, by decide, rfl, ?_⟩
  simp only [OpcodeRow.accepts, encodeI_mask]
  decide

theorem EncodesOwnRow.setFlipProb (p : Half) : Statement (.setFlipProb p) := by
  refine ⟨⟨"SET_FLIP_PROB", 0xFFFFFFFFFFFF0000, 0x2300000000000000⟩, by decide, rfl, ?_⟩
  simp only [OpcodeRow.accepts, encodeI_mask]
  decide

theorem EncodesOwnRow.setRange (index : Half) : Statement (.setRange index) := by
  refine ⟨⟨"SET_RANGE", 0xFFFFFFFFFFFF0000, 0x2400000000000000⟩, by decide, rfl, ?_⟩
  simp only [OpcodeRow.accepts, encodeI_mask]
  decide

theorem EncodesOwnRow.setScale (sel : Half) : Statement (.setScale sel) := by
  refine ⟨⟨"SET_SCALE", 0xFFFFFFFFFFFF0000, 0x3000000000000000⟩, by decide, rfl, ?_⟩
  simp only [OpcodeRow.accepts, encodeI_mask]
  decide

theorem EncodesOwnRow.setNote (note : Half) : Statement (.setNote note) := by
  refine ⟨⟨"SET_NOTE", 0xFFFFFFFFFFFF0000, 0x3100000000000000⟩, by decide, rfl, ?_⟩
  simp only [OpcodeRow.accepts, encodeI_mask]
  decide

theorem EncodesOwnRow.forceBit (b : Bool) : Statement (.forceBit b) := by
  refine ⟨⟨"FORCE_BIT", 0xFFFFFFFFFFFFFFFE, 0x2200000000000000⟩, by decide, rfl, ?_⟩
  simp only [OpcodeRow.accepts, encodeB_mask]
  decide

theorem EncodesOwnRow.sample : Statement .sample := ⟨rfl, rfl⟩

end Sys2Proof.Laws
end

