-- ==== Sys2Proof/Tests/Slice0.lean ====
section
/-!
SUPPORT. Tests: expected results from spec/95 (the vector is named at each test), under P0. Then one witness
for each statement that has hypotheses: a state and operands that meet all of them.
-/

namespace Sys2Proof.Tests

open Sys2Proof Sys2Proof.Machine

/-- What is seen of the next state; none if the machine stops. -/
def seen {α : Type} (o : Answer) (view : State → α) : Option α :=
  match o with
  | .next t => some (view t)
  | .fault _ => none
  | .refused _ => none

/-- The response word at the end of the record of the ports. -/
def response (s : State) : Option RspWord :=
  match s.trace.getLast? with
  | some (.rsp r) => some r.word
  | _ => none

/-- What is seen after the command word arrives and one step is made. -/
def send {α : Type} (w : Nat) (s : State) (view : State → α) : Option α :=
  seen (step (s.withFetchWord 64 w)) view

/-- Program P1 of spec/95 before its last tick, that tick's sample fixed. -/
def ready : State :=
  { State.reset with
    hystLow := 2000, hystHigh := 2048, rateHz := 1000, configured := true, running := true, divisor := 4,
    edgeCounter := 3, lastSample := 3000, bufferedOutput := 3754, sampleAnswers := [1000] }

/-- Program P4 of spec/95 after its fault. -/
def faulted : State :=
  { ready with running := false, fault := true, faultCause := some .rangeIndex }

/-- `ready` on a block with an auxiliary channel, whose reading is fixed too (V-CLK-AUX). -/
def aux : State := { ready with cfg := { Config.p0 with hasAux := true }, sampleAnswers := [1000, 777] }

/-! ### Well-formedness -/

theorem test_readAux_ill_formed_without_aux : Instr.wellFormed false .readAux = false := by decide

theorem test_readAux_well_formed_with_aux : Instr.wellFormed true .readAux = true := by decide

/-! ### Decoding: V-ENC of spec/95 -/

theorem test_decode_clock :
    decodeCmd 0x100003E8080007D0 = some (.configure 1000 .hiToLo 2000 2048) ∧
    decodeCmd 0x10010FA007D007D0 = some (.configure 4000 .loToHi 2000 2000) ∧
    decodeCmd 0x100101F40BB803E8 = some (.configure 500 .loToHi 1000 3000) ∧
    decodeCmd 0x1100000000000000 = some .start ∧
    decodeCmd 0x1200000000000000 = some .stop ∧
    decodeCmd 0x1300000000000004 = some (.setDivisor 4) ∧
    decodeCmd 0x1400000000000EAA = some (.setNextOutput 3754) ∧
    decodeCmd 0x1500000000000000 = some .hasTicked ∧
    decodeCmd 0x1600000000000000 = some .ack ∧
    decodeCmd 0x1700000000000000 = some .readAux ∧
    decodePort (.tick 1) = some .sample := by decide

theorem test_decode_sequencer :
    decodeCmd 0x2000000000000000 = some .step ∧
    decodeCmd 0x2100000000000000 = some .deriveNote ∧
    decodeCmd 0x2200000000000000 = some (.forceBit false) ∧
    decodeCmd 0x2200000000000001 = some (.forceBit true) ∧
    decodeCmd 0x2300000000000040 = some (.setFlipProb 64) ∧
    decodeCmd 0x2400000000000002 = some (.setRange 2) := by decide

theorem test_decode_quantizer :
    decodeCmd 0x3000000000000001 = some (.setScale 1) ∧
    decodeCmd 0x3100000000000087 = some (.setNote 135) ∧
    decodeCmd 0x3200000000000000 = some .getCode ∧
    decodeCmd 0x3300000000000000 = some .getSemitone := by decide

theorem test_decode_illegal :
    decodeCmd 0x0000000000000000 = none ∧ decodeCmd 0xFF00000000000000 = none ∧
    decodeCmd 0x1100000000000001 = none ∧ decodeCmd 0x2200000000000002 = none ∧
    decodeCmd 0x1300000000100000 = none ∧ decodeCmd 0x100203E800020001 = none ∧
    decodePort (.tick 0) = none := by decide

theorem test_encode :
    encode (.configure 1000 .hiToLo 2000 2000) = .cmd 0x100003E807D007D0 ∧
    encode (.setNote 5) = .cmd 0x3100000000000005 ∧ encode .sample = .tick 1 := by decide

theorem test_decodeTableWord :
    decodeTableWord 64 0x3100000000000005 = some (.setNote 5) ∧ decodeTableWord 8 1 = some .sample ∧
    decodeTableWord 8 0 = none := by decide

/-! ### One step each: the vectors of spec/95 -/

/-- The example of spec/40 R81. -/
theorem test_configure_stores :
    send 0x100003E8080007D0 State.reset State.configuration = some (.hiToLo, 2000, 2048, 1000, true) ∧
    send 0x100003E8080007D0 State.reset response = some (some 0) := by decide

/-- V-FAULT: cause 6 is tested before cause 1. -/
theorem test_configure_value_before_rate :
    send 0x1000000008001000 State.reset (fun t => (t.fault, t.configured, response t)) =
    some (true, false, some 0xF0000006) := by decide

/-- V-FAULT: START before CONFIGURE. -/
theorem test_start_unconfigured :
    send 0x1100000000000000 State.reset (fun t => (t.running, response t)) =
    some (false, some 0xF0000007) := by decide

/-- V-CLK-STOP: STOP keeps the flag, the count and the divisor. -/
theorem test_stop_keeps :
    send 0x1200000000000000 { ready with tickFlag := true }
      (fun t => (t.running, t.tickFlag, t.edgeCounter, t.divisor)) =
    some (false, true, 3, 4) := by decide

/-- V-CLK-SETDIV. -/
theorem test_setDivisor_clears_count :
    send 0x1300000000000004 ready (fun t => (t.divisor, t.edgeCounter, response t)) =
    some (4, 0, some 0) := by decide

/-- V-FAULT. -/
theorem test_setDivisor_zero :
    send 0x1300000000000000 State.reset (fun t => (t.divisor, response t)) =
    some (1, some 0xF0000002) := by decide

/-- The example of spec/40 R85. -/
theorem test_setNextOutput_buffers :
    send 0x1400000000000EAA State.reset (fun t => (t.bufferedOutput, t.outHistory)) =
    some (3754, []) := by decide

/-- V-FAULT. -/
theorem test_setNextOutput_too_wide :
    send 0x1400000000001000 State.reset (fun t => (t.bufferedOutput, response t)) =
    some (0, some 0xF0000006) := by decide

/-- P1, the last tick. -/
theorem test_sample_triggers :
    seen (step (ready.withFetchWord 8 1)) (fun t =>
      (t.edgeCounter, t.tickFlag, t.outHistory, t.dacLast, t.lastSample)) =
    some (0, true, [3754], some 3754, 1000) := by decide

/-- V-CLK-AUX, D25: the auxiliary read comes after the dispatch. -/
theorem test_sample_aux_last :
    seen (exec .sample aux) (fun t => (t.auxSample, t.trace)) =
    some (777, [.ioRead 0 1000, .ioWrite 3754, .ioRead 1 777]) := by decide

/-- The example of spec/40 R88. -/
theorem test_hasTicked :
    send 0x1500000000000000 { ready with tickFlag := true } (fun t => (t.tickFlag, response t)) =
    some (true, some 0x00000001) := by decide

/-- P4: refused with the first cause. -/
theorem test_hasTicked_refused :
    send 0x1500000000000000 faulted response = some (some 0xE0000003) := by decide

/-- P7, order A. -/
theorem test_ack :
    send 0x1600000000000000 { ready with tickFlag := true } (fun t => (t.tickFlag, t.edgeCounter)) =
    some (false, 3) := by decide

/-- V-CLK-AUX. -/
theorem test_readAux :
    send 0x1700000000000000 { aux with auxSample := 777 } response = some (some 0x00000309) := by decide

/-- V-ENC: READ_AUX when HAS_AUX is false. -/
theorem test_readAux_illegal :
    send 0x1700000000000000 State.reset (fun t => (t.faultCause, response t)) =
    some (some .illegalCmd, some 0xF0000008) := by decide

/-- V-SEQ-STEP: a draw below `flipNum` flips. -/
theorem test_step_flips :
    send 0x2000000000000000 { State.reset with reg := 0x8000, flipNum := 64, drawAnswers := [63] } State.reg =
    some 0x0000 := by decide

/-- V-SEQ-STEP: a draw not below `flipNum` does not. -/
theorem test_step_keeps :
    send 0x2000000000000000 { State.reset with reg := 0x7FFF, flipNum := 255, drawAnswers := [255] } State.reg =
    some 0xFFFE := by decide

/-- V-SEQ-NOTE: the document's note 5. -/
theorem test_deriveNote :
    send 0x2100000000000000 { State.reset with reg := 0xAB05, rangeDivisor := 57 } response =
    some (some 0x00000005) := by decide

/-- V-SEQ-NOTE: `t2` needs 17 bits. -/
theorem test_deriveNote_17_bits :
    send 0x2100000000000000 { State.reset with reg := 0x00E0, rangeDivisor := 57 } response =
    some (some 0x00000024) := by decide

/-- V-SEQ-FORCE. -/
theorem test_forceBit_sets :
    send 0x2200000000000001 { State.reset with reg := 0x8000 } State.reg = some 0x8001 := by decide

/-- V-SEQ-FORCE. -/
theorem test_forceBit_clears :
    send 0x2200000000000000 { State.reset with reg := 0xFFFF } State.reg = some 0xFFFE := by decide

/-- V-SEQ-SET. -/
theorem test_setFlipProb :
    send 0x23000000000000FF State.reset (fun t => (t.flipNum, response t)) = some (255, some 0) := by decide

/-- V-FAULT. -/
theorem test_setFlipProb_out_of_range :
    send 0x2300000000000100 State.reset (fun t => (t.flipNum, response t)) =
    some (0, some 0xF0000005) := by decide

/-- V-SEQ-SET. -/
theorem test_setRange :
    send 0x2400000000000009 State.reset (fun t => (t.rangeIndex, t.rangeDivisor)) = some (9, 17) := by decide

/-- V-FAULT. -/
theorem test_setRange_out_of_range :
    send 0x240000000000000A State.reset (fun t => (t.rangeDivisor, response t)) =
    some (170, some 0xF0000003) := by decide

/-- V-FAULT. -/
theorem test_setScale :
    send 0x3000000000000002 State.reset (fun t => (t.scaleSel, response t)) = some (2, some 0) := by decide

/-- V-FAULT. -/
theorem test_setScale_out_of_range :
    send 0x3000000000000003 State.reset (fun t => (t.scaleSel, response t)) =
    some (0, some 0xF0000004) := by decide

/-- S3. -/
theorem test_setNote_snaps :
    send 0x3100000000000001 { State.reset with scaleSel := 1 } (fun t => (t.octave, t.semitone)) =
    some (0, 2) := by decide

/-- The wrap of spec/42 R122. -/
theorem test_setNote_wraps :
    send 0x310000000000000A { State.reset with scaleSel := 2 } (fun t => (t.octave, t.semitone)) =
    some (1, 0) := by decide

/-- P2: `VLT[5]`. -/
theorem test_getCode :
    send 0x3200000000000000 { State.reset with semitone := 5 } response = some (some 0x00000EAA) := by decide

/-- P5: index 61, clamped. -/
theorem test_getCode_clamped :
    send 0x3200000000000000 { State.reset with octave := 5, semitone := 1 } response =
    some (some 0x10000000) := by decide

/-- The example of spec/42 R124. -/
theorem test_getSemitone :
    send 0x3300000000000000 { State.reset with semitone := 2 } response = some (some 0x00000002) := by decide

/-- P4: in the faulted state even word 0 is refused with the first cause, not with 8. -/
theorem test_illegal_word_refused : send 0 faulted response = some (some 0xE0000003) := by decide

/-- V-ENC: word 0 straight after reset. -/
theorem test_illegal_word :
    send 0 State.reset (fun t => (t.fault, t.faultCause, response t)) =
    some (true, some .illegalCmd, some 0xF0000008) := by decide

/-- V-CLK-EDGE, rows 2, 3, 4, 6, 16 (HI_TO_LO). -/
theorem test_edge_falls :
    ready.edge 2049 1999 = true ∧ ready.edge 2048 1999 = false ∧ ready.edge 2049 2000 = false ∧
    ready.edge 2020 1000 = false ∧ { ready with hystLow := 3000, hystHigh := 1000 }.edge 2000 2000 = true := by
  decide

/-- V-CLK-EDGE, rows 9 to 12 (LO_TO_HI). -/
theorem test_edge_rises :
    let s := { ready with cfgPol := .loToHi }
    s.edge 1999 2049 = true ∧ s.edge 2000 2049 = false ∧ s.edge 1999 2048 = false ∧ s.edge 3000 1000 = false := by
  decide

/-- V-VLT: the rounding and the other polarity. -/
theorem test_vlt :
    (List.range 5).map { Config.p0 with codeMax := 10, codeRange := 10, vltSteps := 4 }.vltValue =
      [10, 8, 5, 3, 0] ∧
    (List.range 5).map { Config.p0 with codeMax := 0, codeRange := -8, vltSteps := 4 }.vltValue =
      [0, 2, 4, 6, 8] ∧
    Config.p0.romVlt 30 = 2048 := by decide

/-! ### Witnesses: encoding and the step -/

/-- `s` with one arrival. -/
def arriving (a : Arrival) (s : State) : State := { s with arrivals := [a] }

theorem witness_DecodedWordsEncodeBack :
    decodePort (.cmd 0x10010FA007D007D0) = some (.configure 4000 .loToHi 2000 2000) ∧
    decodePort (.tick 1) = some .sample := by decide

theorem witness_DecoderAgreesWithTheOpcodeMap :
    (⟨"FORCE_BIT", 0xFFFFFFFFFFFFFFFE, 0x2200000000000000⟩ : OpcodeRow) ∈ opcodeTable ∧
    OpcodeRow.accepts ⟨"FORCE_BIT", 0xFFFFFFFFFFFFFFFE, 0x2200000000000000⟩ 0x2200000000000001 = true := by
  decide

theorem witness_StepRunsTheDecodedInstruction :
    (arriving (.one (.port (.cmd 0x3100000000000005))) ready).arrivals =
      .one (.port (.cmd 0x3100000000000005)) :: [] ∧
    decodePort (.cmd 0x3100000000000005) = some (.setNote 5) := by decide

theorem witness_NothingHappensWithoutAnEvent :
    ready.arrivals = [] ∧
    (arriving (.one (.port (.tick 0))) ready).arrivals = .one (.port (.tick 0)) :: [] := by decide

/-- A word of no row. -/
theorem witness_IllegalWordRaisesIllegalCmd_no_row :
    let s := arriving (.one (.port (.cmd 0x1300000000100000))) ready
    s.arrivals = .one (.port (.cmd 0x1300000000100000)) :: [] ∧ s.fault = false ∧
    ∀ r ∈ opcodeTable, r.accepts 0x1300000000100000 = false := by decide

/-- READ_AUX without the channel. -/
theorem witness_IllegalWordRaisesIllegalCmd_aux :
    let s := arriving (.one (.port (.cmd 0x1700000000000000))) ready
    s.arrivals = .one (.port (.cmd 0x1700000000000000)) :: [] ∧ s.fault = false ∧
    s.cfg.hasAux = false := by decide

theorem witness_FaultedBlockRefusesCommandsAndDropsTicks :
    faulted.fault = true ∧
    (arriving (.one (.port (.cmd 0x1200000000000000))) faulted).arrivals =
      .one (.port (.cmd 0x1200000000000000)) :: [] ∧
    (arriving (.one (.port (.tick 1))) faulted).arrivals = .one (.port (.tick 1)) :: [] := by decide

theorem witness_ResetStrobeGivesTheResetState :
    (arriving (.one .reset) faulted).arrivals = .one .reset :: [] := by decide

theorem witness_ResetStateHoldsTheTable : Config.p0.resetValues = {} := by decide

theorem witness_OnlyResetLeavesTheFaultedState :
    let s := arriving (.one (.port (.cmd 0))) faulted
    ∃ t, step s = .next t ∧ s.fault = true ∧ ¬ ∃ rest, s.arrivals = .one .reset :: rest :=
  ⟨_, rfl, rfl, by simp [arriving]⟩

/-- An ACK and a trigger in the same instant; the second clause asks for a same-instant arrival alone. -/
theorem witness_SameInstantArrivalsAreSerialised :
    let s := arriving (.together 0x1600000000000000) ready
    s.arrivals = .together 0x1600000000000000 :: [] ∧ s.fault = false ∧ s.running = true ∧
    s.triggerNext = true := by decide

/-! ### Witnesses: whole-machine rules -/

theorem witness_InvariantsHoldAfterReset : Config.p0.Valid := p0_valid

/-- A safe state that is not the reset state: running, in the middle of a count. -/
theorem ready_inv : Inv ready :=
  ⟨p0_valid, by decide, by decide, by decide, by decide, by decide, by decide, by decide, by decide, by decide,
    by decide, by decide, by decide, by decide, by decide⟩

theorem witness_StepKeepsTheInvariants :
    Inv ready ∧ ∃ t, step ready = .next t := ⟨ready_inv, _, rfl⟩

theorem witness_SafeStateNeverStops : Inv ready := ready_inv

theorem witness_RunsAfterResetStaySafe : Config.p0.Valid := p0_valid

theorem witness_ParametersNeverChange :
    ∃ t, step (arriving (.one (.port (.tick 1))) ready) = .next t := ⟨_, rfl⟩

/-- The flag raised, and lowered. -/
theorem witness_TickFlagIsRaisedBySampleAndLoweredByAck :
    (∃ t, exec .sample ready = .next t ∧ ready.tickFlag = false ∧ t.tickFlag = true) ∧
    ∃ t, exec .ack { ready with tickFlag := true } = .next t ∧ t.tickFlag = false :=
  ⟨⟨_, rfl, rfl, by decide⟩, _, rfl, rfl⟩

theorem witness_OutputIsWrittenBySampleOnly :
    (∃ t, exec .sample ready = .next t ∧ t.outHistory = [3754]) ∧ ∃ t, exec .stop ready = .next t :=
  ⟨⟨_, rfl, by decide⟩, _, rfl⟩

/-- An instruction of each unit. -/
theorem witness_UnitsLeaveEachOtherAlone :
    (∃ t, exec .sample ready = .next t) ∧ partOf .sample ≠ .sequencer ∧ partOf .sample ≠ .quantizer ∧
    (∃ t, exec (.setRange 10) ready = .next t ∧ t.running = false) ∧ partOf (.setRange 10) ≠ .clock :=
  ⟨⟨_, rfl⟩, by decide, by decide, ⟨_, rfl, rfl⟩, by decide⟩

/-- A write of each control register. -/
theorem witness_ControlRegistersHaveOneWriter :
    seen (exec (.configure 500 .loToHi 1 2) State.reset) State.configuration ≠
      some State.reset.configuration ∧
    seen (exec (.setDivisor 5) ready) State.divisor ≠ some ready.divisor ∧
    seen (exec (.setNextOutput 0) ready) State.bufferedOutput ≠ some ready.bufferedOutput ∧
    seen (exec (.setFlipProb 1) ready) State.flipNum ≠ some ready.flipNum ∧
    seen (exec (.setRange 1) ready) State.rangeDivisor ≠ some ready.rangeDivisor ∧
    seen (exec (.setScale 1) ready) State.scaleSel ≠ some ready.scaleSel ∧
    seen (exec .start { ready with running := false }) State.running = some true := by decide

theorem witness_EveryCommandRespondsExactlyOnce :
    (∃ t, exec .getCode ready = .next t) ∧ Instr.isCommand .getCode = true ∧
    (∃ t, exec .sample ready = .next t) ∧ Instr.isCommand .sample = false :=
  ⟨⟨_, rfl⟩, rfl, ⟨_, rfl⟩, rfl⟩

theorem witness_ConfigurationErrorWritesNothingElse :
    ∃ t, step (arriving (.one (.port (.cmd 0))) ready) = .next t ∧ ready.fault = false ∧ t.fault = true :=
  ⟨_, rfl, rfl, rfl⟩

/-- Every cause, by an instruction that raises it. -/
theorem witness_EachInstructionRaisesOnlyItsCauses :
    let cause := fun i s => seen (exec i s) State.faultCause
    ready.fault = false ∧
    cause (.configure 1000 .hiToLo 0 0) ready = some (some .sequence) ∧
    cause (.configure 1000 .hiToLo 4096 0) State.reset = some (some .valueRange) ∧
    cause (.configure 0 .hiToLo 0 0) State.reset = some (some .rate) ∧
    cause .start State.reset = some (some .sequence) ∧
    cause (.setDivisor 0) ready = some (some .divisorZero) ∧
    cause (.setNextOutput 4096) ready = some (some .valueRange) ∧
    cause (.setFlipProb 256) ready = some (some .flipRange) ∧
    cause (.setRange 10) ready = some (some .rangeIndex) ∧
    cause (.setScale 3) ready = some (some .scaleIndex) ∧
    cause .readAux ready = some (some .illegalCmd) := by decide

/-- Two states that differ in the clock engine only. -/
theorem witness_MusicDoesNotDependOnTheClockEngine :
    partOf (.setNote 5) ≠ .clock ∧ State.reset.sameMusic ready ∧ State.reset ≠ ready ∧
    ∃ t, exec (.setNote 5) State.reset = .next t :=
  ⟨by decide, ⟨rfl, rfl, rfl, rfl, rfl, rfl, rfl⟩, by decide, _, rfl⟩

theorem witness_BrokenStatesStopByName :
    (let s := { ready with rangeDivisor := 0 }; s.fault = false ∧ s.rangeDivisor = 0) ∧
    let s := { ready with scaleSel := 3 }
    s.fault = false ∧ s.scaleSel ≠ 0 ∧ s.cfg.numScales < s.scaleSel.toNat := by decide

/-! ### Witnesses: clock engine -/

/-- One for each check and one for acceptance, at the bounds of the operands. -/
theorem witness_ConfigureChecksThenStores :
    (ready.fault = false ∧ ready.running = true) ∧
    (State.reset.fault = false ∧ State.reset.running = false ∧ 2 ^ RES ≤ (4096 : Half).toNat ∧
      (4095 : Half).toNat < 2 ^ RES) ∧
    (State.reset.cfg.rateOK 0 = false ∧ State.reset.cfg.rateOK 499 = false ∧
      State.reset.cfg.rateOK 4001 = false) ∧
    (State.reset.cfg.rateOK 500 = true ∧ State.reset.cfg.rateOK 4000 = true) := by decide

theorem witness_RateZeroFailsAndObservedRatesPass :
    500 ≤ (500 : Half).toNat ∧ (500 : Half).toNat ≤ 4000 ∧ 500 ≤ (4000 : Half).toNat ∧
    (4000 : Half).toNat ≤ 4000 := by decide

theorem witness_StartNeedsAConfiguration :
    (State.reset.fault = false ∧ State.reset.configured = false) ∧
    (ready.fault = false ∧ ready.configured = true) := by decide

theorem witness_StopKeepsEverythingElse : ready.fault = false := by decide

theorem witness_SetDivisorClearsTheCount :
    ready.fault = false ∧ (0 : Half) = 0 ∧ (1 : Half) ≠ 0 ∧ (65535 : Half) ≠ 0 := by decide

theorem witness_SetNextOutputBuffersTheCode :
    ready.fault = false ∧ 2 ^ RES ≤ (4096 : Half).toNat ∧ (4095 : Half).toNat < 2 ^ RES := by decide

/-- Both polarities, a sample on each bound of the band, and an edge under an upright band. -/
theorem witness_EdgeTestIsStrictAndTwoSided :
    ready.cfgPol = .hiToLo ∧ { ready with cfgPol := .loToHi }.cfgPol = .loToHi ∧
    (ready.hystLow.toNat ≤ (2000 : Sample).toNat ∧ (2000 : Sample).toNat ≤ ready.hystHigh.toNat) ∧
    (ready.hystLow.toNat ≤ (2048 : Sample).toNat ∧ (2048 : Sample).toNat ≤ ready.hystHigh.toNat) ∧
    ready.hystLow.toNat ≤ ready.hystHigh.toNat ∧ ready.edge 2049 1999 = true := by decide

/-- A trigger, a counted edge, no edge, with and without the auxiliary channel. -/
theorem witness_SampleReadsCountsAndDispatches :
    (ready.running = true ∧ ready.fault = false) ∧ ready.triggerNext = true ∧
    (let s := { ready with edgeCounter := 2 }; s.edgeNext = true ∧ s.triggerNext = false) ∧
    { ready with sampleAnswers := [2000] }.edgeNext = false ∧
    ready.cfg.hasAux = false ∧ (aux.running = true ∧ aux.fault = false ∧ aux.cfg.hasAux = true) := by decide

theorem witness_TickIsDroppedUnlessRunning :
    { ready with running := false }.running = false ∧ faulted.fault = true := by decide

/-- Divisor 2: three ticks with one edge, and four with two. -/
theorem witness_DivisorEdgesMakeOneTrigger :
    let s := { ready with divisor := 2, edgeCounter := 0, sampleAnswers := [1000, 3000, 2020, 3000] }
    let s' := { s with sampleAnswers := [1000, 3000, 1000, 3000] }
    (s.running = true ∧ s.fault = false ∧ s.edgeCounter = 0 ∧ s.tickFlag = false ∧ 1 ≤ s.divisor.toNat) ∧
    s.edgesIn 4 < s.divisor.toNat ∧
    (s'.running = true ∧ s'.fault = false ∧ s'.edgeCounter = 0 ∧ s'.tickFlag = false ∧
      1 ≤ s'.divisor.toNat) ∧
    s'.edgesIn 4 = s'.divisor.toNat := by decide

theorem witness_HasTickedReportsTheFlag :
    { ready with tickFlag := true }.fault = false ∧ { ready with tickFlag := true }.tickFlagPin = 1 := by decide

theorem witness_AckClearsTheFlagOnly : { ready with tickFlag := true }.fault = false := by decide

theorem witness_ReadAuxReportsTheAuxiliarySample :
    (aux.fault = false ∧ aux.cfg.hasAux = true) ∧ (ready.fault = false ∧ ready.cfg.hasAux = false) := by decide

theorem witness_NoSampleBetweenStopAndStart :
    let s := { ready with running := false }
    s.running = false ∧ s.tickFlag = false ∧ (∀ i ∈ [Instr.sample, .ack], i ≠ .start) ∧
    ∃ t, execAll [.sample, .ack] s = .next t :=
  ⟨rfl, rfl, by decide, _, rfl⟩

theorem witness_CriticalSectionNeedsAConfiguration :
    (ready.fault = false ∧ ready.configured = true) ∧
    (State.reset.fault = false ∧ State.reset.configured = false) := by decide

/-! ### Witnesses: sequencer -/

theorem witness_StepRotatesWithTheFlip : ready.fault = false := by decide

/-- An answer at the top of the range. -/
theorem witness_DrawLiesBelowTheDenominator :
    let s := { ready with drawAnswers := [255] }
    2 ≤ s.cfg.flipDenom ∧ s.drawAnswers = 255 :: [] ∧ (255 : Half).toNat < s.cfg.flipDenom ∧
    s.flipNum = 0 := by decide

theorem witness_StepsWithoutFlipsRotate : ready.fault = false ∧ ready.flipNum = 0 ∧ 16 % 16 = 0 := by decide

theorem witness_DeriveNoteIsTheTransform : ready.fault = false ∧ ready.rangeDivisor ≠ 0 := by decide

theorem witness_NoteTransformLaws :
    (0 ≤ 255 ∧ 1 ≤ 1 ∧ 1 ≤ 65535 ∧ 255 ≤ 255) ∧ noteOf 255 1 = 2296 ∧ noteOf 255 65535 = 0 := by decide

theorem witness_ForceBitWritesBitZero : ready.fault = false ∧ 15 ≤ 15 := by decide

theorem witness_SetFlipProbChecksTheDenominator :
    ready.fault = false ∧ ready.cfg.flipDenom ≤ (256 : Half).toNat ∧
    (255 : Half).toNat < ready.cfg.flipDenom := by decide

/-- Out of the table, its last entry, and a zero entry on a block that has one. -/
theorem witness_SetRangeSelectsATableEntry :
    ready.fault = false ∧ 9 < (10 : Half).toNat ∧ (9 : Half).toNat < 10 ∧ ready.cfg.divisorTable[9] ≠ 0 ∧
    { Config.p0 with divisorTable := #v[0, 1, 1, 1, 1, 1, 1, 1, 1, 1] }.divisorTable[0] = 0 := by decide

/-- A tick between the pairs. -/
theorem witness_LoadRegLoadsItsValue :
    ready.fault = false ∧
    (Instr.sample :: loadReg 0xBEEF ++ [Instr.sample]).filter (· ≠ Instr.sample) = loadReg 0xBEEF := by decide

/-! ### Witnesses: quantizer -/

theorem witness_SetScaleSelectsWithoutResolving :
    ready.fault = false ∧ ready.cfg.numScales < (3 : Half).toNat ∧ (2 : Half).toNat ≤ ready.cfg.numScales ∧
    (0 : Half).toNat ≤ ready.cfg.numScales := by decide

/-- Chromatic; then the five-tone scale, where raw 9 is an entry below the sentinel and raw 10 reaches it. -/
theorem witness_SetNoteSnapsUp :
    (ready.fault = false ∧ ready.scaleSel = 0) ∧
    let s := { ready with scaleSel := 2 }
    s.fault = false ∧ s.cfg.Valid ∧ s.scaleSel ≠ 0 ∧ s.scaleSel.toNat - 1 < s.cfg.scaleRom.length ∧
    Config.p0.romScale 1 = some #v[0, 2, 4, 7, 9, 12, 12, 12] :=
  ⟨by decide, by decide, p0_valid, by decide, by decide, by decide⟩

/-- Notes 10 and 11 under the five-tone scale, whose first entry is 0; and a chromatic note. -/
theorem witness_QuantizedPitchLaws :
    let s := { ready with scaleSel := 2 }
    s.cfg.Valid ∧ s.scaleSel.toNat ≤ s.cfg.numScales ∧ s.fault = false ∧
    (∃ t, exec (.setNote 10) s = .next t ∧ t.pitch = 12) ∧ (∃ t, exec (.setNote 11) s = .next t) ∧
    (∃ t, exec (.setNote 12) s = .next t) ∧ (10 : Half).toNat ≤ (11 : Half).toNat ∧
    (∃ tab, s.cfg.romScale (s.scaleSel.toNat - 1) = some tab ∧ tab[0] = 0) ∧
    ready.scaleSel = 0 ∧ ∃ t, exec (.setNote 65535) ready = .next t :=
  ⟨p0_valid, by decide, rfl, ⟨_, rfl, by decide⟩, ⟨_, rfl⟩, ⟨_, rfl⟩, by decide, ⟨_, rfl, rfl⟩, rfl, _, rfl⟩

/-- The last index of the table, and the first beyond it. -/
theorem witness_GetCodeLooksUpOrClamps :
    ready.cfg.Valid ∧
    (let s := { ready with octave := 5 };
      s.fault = false ∧ s.octave.toNat * 12 + s.semitone.toNat = s.cfg.vltSteps) ∧
    let s := { ready with octave := 5, semitone := 1 }
    s.fault = false ∧ s.cfg.vltSteps + 1 = s.octave.toNat * 12 + s.semitone.toNat :=
  ⟨p0_valid, by decide, by decide⟩

theorem witness_GetCodeAlwaysCompletes : ready.fault = false := by decide

theorem witness_GetSemitoneReportsTheSemitone : ready.fault = false := by decide

theorem witness_LookupTableRoundsTheFormula : Config.p0.Valid ∧ 60 ≤ Config.p0.vltSteps :=
  ⟨p0_valid, by decide⟩

/-- P0 with the other converter polarity. -/
def risingTable : Config := { Config.p0 with codeMax := 0, codeRange := -4095 }

theorem witness_LookupTableIsStrictlyMonotonic :
    (Config.p0.Valid ∧ 59 < 60 ∧ 60 ≤ Config.p0.vltSteps ∧ 0 < Config.p0.codeRange) ∧
    (risingTable.Valid ∧ 60 ≤ risingTable.vltSteps ∧ risingTable.codeRange < 0) :=
  ⟨⟨p0_valid, by decide, by decide, by decide⟩,
    ⟨p0_valid.1, p0_valid.2.1, p0_valid.2.2.1, by decide, by decide +kernel, nofun, p0_valid.2.2.2.2.2.2⟩,
    by decide, by decide⟩

/-- A safe state with the flag down, and one with the flag up. -/
theorem witness_ServiceTickBuffersTheNextCode :
    (Inv ready ∧ ready.fault = false ∧ ready.tickFlag = false) ∧
    let s := { ready with tickFlag := true }
    Inv s ∧ s.fault = false ∧ s.tickFlag = true :=
  ⟨⟨ready_inv, rfl, rfl⟩,
    ⟨p0_valid, by decide, by decide, by decide, by decide, by decide, by decide, by decide, by decide, by decide,
      by decide, by decide, by decide, by decide, by decide⟩, rfl, rfl⟩

end Sys2Proof.Tests
end

section
/-!
PROOFS. The predicate `RateOK` (spec/00 R6): what it says on every configuration, and its fixed points.
-/
namespace Sys2Proof.Proofs

/-- The three ways `RateOK` speaks of a rate: never 0, the observed range, the block's own intervals. -/
theorem rateOK_iff (c : Config) (r : Half) :
    c.rateOK r = true ↔
      r ≠ 0 ∧ ((500 ≤ r.toNat ∧ r.toNat ≤ 4000) ∨
        ∃ p ∈ c.extraRates, p.1 ≤ r.toNat ∧ r.toNat ≤ p.2) := by
  simp [Config.rateOK]

/-- No interval of `extraRates` can admit a zero rate (spec/92 D16). -/
@[simp] theorem rateOK_zero (c : Config) : c.rateOK 0 = false := by
  refine Bool.eq_false_iff.mpr fun accepted => ?_
  obtain ⟨nonzero, -⟩ := (rateOK_iff c 0).mp accepted
  exact nonzero rfl

/-- The observed range is accepted whatever `extraRates` holds (spec/92 D16). -/
theorem rateOK_of_observed (c : Config) {r : Half} (low : 500 ≤ r.toNat) (high : r.toNat ≤ 4000) :
    c.rateOK r = true := by
  have nonzero : r ≠ 0 := by
    rintro rfl
    exact absurd low (by decide)
  exact (rateOK_iff c r).mpr ⟨nonzero, .inl ⟨low, high⟩⟩

/-- Settles O29: rate 0 fails `RateOK`'s first conjunct, and a rate from 500 to 4000 meets the first and
the observed range. -/
theorem rateZeroFailsAndObservedRatesPass : Obligations.RateZeroFailsAndObservedRatesPass := by
  unfold Obligations.RateZeroFailsAndObservedRatesPass
  exact fun c => ⟨rateOK_zero c, fun _ low high => rateOK_of_observed c low high⟩

end Sys2Proof.Proofs
end

section
/-!
PROOFS. What one instruction can do, said once: refused, dropped, stopped by a ConfigurationError, or
performed with the effect of its own rule. The frames of SAMPLE stand first, since its effect is the one that
is made of several operations (spec/40 R87).
-/
namespace Sys2Proof.Proofs

open Sys2Proof.Machine

/-! ### A performed SAMPLE -/

/-- What a performed SAMPLE writes whether or not an edge qualifies: the two readings and the record of the
exchange with the Device I/O (spec/10 R11, R21, spec/20 R44). -/
def sampleReads (s : State) : State :=
  { s with
    lastSample := s.nextSample
    auxSample := s.sampleClock.sampleAux.auxSample
    sampleAnswers := s.sampleClock.sampleAux.sampleAnswers
    reads := s.sampleClock.sampleAux.reads
    trace := s.sampleClock.sampleAux.trace }

/-- The auxiliary half writes `auxSample` and what belongs to the exchange, nothing else. -/
theorem sampleAux_frame (s : State) :
    s.sampleAux = { s with
      auxSample := s.sampleAux.auxSample
      sampleAnswers := s.sampleAux.sampleAnswers
      reads := s.sampleAux.reads
      trace := s.sampleAux.trace } := by
  unfold State.sampleAux
  split <;> rfl

/-- A performed SAMPLE beside its readings: nothing without an edge, a count, or a trigger (spec/40 R87). -/
theorem performedSample_cases (s : State) :
    (s.edgeNext = false ∧ s.sampleClock.sampleAux = sampleReads s) ∨
    (s.edgeNext = true ∧ s.triggerNext = false ∧
      s.sampleClock.sampleAux = { sampleReads s with edgeCounter := s.edgeCounter + 1 }) ∨
    (s.triggerNext = true ∧
      s.sampleClock.sampleAux = { sampleReads s with
        edgeCounter := 0, tickFlag := true, dacLast := some s.bufferedOutput,
        outHistory := s.outHistory ++ [s.bufferedOutput] }) := by
  have frame := sampleAux_frame s.sampleClock
  unfold sampleReads
  generalize s.sampleClock.sampleAux = p at frame ⊢
  obtain ⟨hedge, hclock⟩ | ⟨hedge, htrig, hclock⟩ | ⟨-, htrig, hclock⟩ := s.sampleClock_cases
  · exact .inl ⟨hedge, by rw [hclock] at frame; exact frame⟩
  · exact .inr (.inl ⟨hedge, htrig, by rw [hclock] at frame; exact frame⟩)
  · exact .inr (.inr ⟨htrig, by rw [hclock] at frame; exact frame⟩)

/-! ### The effect of each instruction -/

/-- `Performs i s t`: in state `s` the checks of `i` hold and its own rule leaves `t`. A command that only
reports leaves nothing but its response. -/
inductive Performs : Instr → State → State → Prop
  | configure {s rate pol low high} (stopped : s.running = false) (hlow : fitsRes low = true)
      (hhigh : fitsRes high = true) (hrate : s.cfg.rateOK rate = true) :
      Performs (.configure rate pol low high) s
        ({ s with
          cfgPol := pol, hystLow := lowRes low, hystHigh := lowRes high, rateHz := rate,
          configured := true }.logged [.timerConfigure rate, okRsp 0])
  | start {s} (hconf : s.configured = true) :
      Performs .start s ({ s with running := true }.logged [.timerStart, okRsp 0])
  | stop {s} : Performs .stop s ({ s with running := false }.logged [.timerStop, okRsp 0])
  | setDivisor {s n} (hn : n ≠ 0) :
      Performs (.setDivisor n) s ({ s with divisor := n, edgeCounter := 0 }.logged [okRsp 0])
  | setNextOutput {s code} (hcode : fitsRes code = true) :
      Performs (.setNextOutput code) s ({ s with bufferedOutput := lowRes code }.logged [okRsp 0])
  | sample {s} (hrun : s.running = true) : Performs .sample s s.sampleClock.sampleAux
  | hasTicked {s} : Performs .hasTicked s (s.logged [okRsp (zextFlag s.tickFlag)])
  | ack {s} : Performs .ack s ({ s with tickFlag := false }.logged [okRsp 0])
  | readAux {s} (haux : s.cfg.hasAux = true) :
      Performs .readAux s (s.logged [okRsp (zextRes s.auxSample)])
  | step {s} :
      Performs .step s ({ s.afterDraw with
        reg := rotateWithFlip s.reg (s.nextDraw < s.flipNum.toNat) }.logged [okRsp 0])
  | deriveNote {s} (hdiv : s.rangeDivisor ≠ 0) :
      Performs .deriveNote s (s.logged [okRsp (BitVec.ofNat 16
        (noteOf (s.reg.extractLsb' 0 8).toNat s.rangeDivisor.toNat))])
  | forceBit {s b} :
      Performs (.forceBit b) s
        ({ s with reg := s.reg.extractLsb' 1 15 ++ BitVec.ofBool b }.logged [okRsp 0])
  | setFlipProb {s p} (hp : p.toNat < s.cfg.flipDenom) :
      Performs (.setFlipProb p) s ({ s with flipNum := p }.logged [okRsp 0])
  | setRange {s k d} (hk : k.toNat ≤ 9) (hrom : s.cfg.romDivtab k.toNat = some d) (hd : d ≠ 0) :
      Performs (.setRange k) s
        ({ s with rangeIndex := k.extractLsb' 0 4, rangeDivisor := d }.logged [okRsp 0])
  | setScale {s sel} (hsel : sel.toNat ≤ s.cfg.numScales) :
      Performs (.setScale sel) s ({ s with scaleSel := sel }.logged [okRsp 0])
  | setNote {s note o m} (hres : s.resolveNote note.toNat = some (o, m)) :
      Performs (.setNote note) s
        ({ s with octave := BitVec.ofNat 16 o, semitone := BitVec.ofNat 4 m }.logged [okRsp 0])
  | getCodeInTable {s} (hidx : s.vltIndex ≤ s.cfg.vltSteps) :
      Performs .getCode s (s.logged [okRsp (zextRes (s.cfg.romVlt s.vltIndex))])
  | getCodeClamped {s} (hidx : s.cfg.vltSteps < s.vltIndex) :
      Performs .getCode s (s.logged [.rsp ⟨.okClamped, zextRes (s.cfg.romVlt s.cfg.vltSteps)⟩])
  | getSemitone {s} : Performs .getSemitone s (s.logged [okRsp (zextNibble s.semitone)])

/-- A command that acts on a port and then ends without a value. -/
theorem emit_done (e : PortEvent) (s : State) : (s.emit e).done = .next (s.logged [e, okRsp 0]) := by
  rw [State.emit_eq_logged, State.done_eq, State.logged_logged]
  rfl

/-- What a command leads to in an unfaulted state: a ConfigurationError or the command's own effect. -/
def RaisesOrPerforms (i : Instr) (s t : State) : Prop := (∃ c, t = s.raise c) ∨ Performs i s t

theorem raisesOrPerforms_raise {i : Instr} {s t : State} {c : Cause}
    (h : Host.Outcome.next (s.raise c) = (.next t : Answer)) : RaisesOrPerforms i s t := by
  cases h
  exact .inl ⟨c, rfl⟩

section Unfaulted

variable {s t : State} (hf : s.fault = false)
include hf

theorem configure_cases {rate low high : Half} {pol : Polarity}
    (h : exec (.configure rate pol low high) s = .next t) :
    RaisesOrPerforms (.configure rate pol low high) s t := by
  rw [exec, execConfigure, State.command_of_ok hf] at h
  split at h
  · exact raisesOrPerforms_raise h
  split at h
  · exact raisesOrPerforms_raise h
  split at h
  · exact raisesOrPerforms_raise h
  next hrun hfits hrate =>
    rw [emit_done] at h
    cases h
    obtain ⟨hhigh, hlow⟩ : fitsRes high = true ∧ fitsRes low = true := by simpa using hfits
    exact .inr (.configure (by simpa using hrun) hlow hhigh (by simpa using hrate))

theorem start_cases (h : exec .start s = .next t) : RaisesOrPerforms .start s t := by
  rw [exec, execStart, State.command_of_ok hf] at h
  split at h
  · exact raisesOrPerforms_raise h
  next hconf =>
    rw [emit_done] at h
    cases h
    exact .inr (.start (by simpa using hconf))

theorem stop_performs (h : exec .stop s = .next t) : Performs .stop s t := by
  rw [exec, execStop, State.command_of_ok hf, emit_done] at h
  cases h
  exact .stop

theorem setDivisor_cases {n : Half} (h : exec (.setDivisor n) s = .next t) :
    RaisesOrPerforms (.setDivisor n) s t := by
  rw [exec, execSetDivisor, State.command_of_ok hf] at h
  split at h
  · exact raisesOrPerforms_raise h
  next hn => cases h; exact .inr (.setDivisor hn)

theorem setNextOutput_cases {code : Half} (h : exec (.setNextOutput code) s = .next t) :
    RaisesOrPerforms (.setNextOutput code) s t := by
  rw [exec, execSetNextOutput, State.command_of_ok hf] at h
  split at h
  · exact raisesOrPerforms_raise h
  next hcode => cases h; exact .inr (.setNextOutput (by simpa using hcode))

theorem readAux_cases (h : exec .readAux s = .next t) : RaisesOrPerforms .readAux s t := by
  rw [exec, execReadAux, State.command_of_ok hf] at h
  split at h
  next haux => cases h; exact .inr (.readAux haux)
  · exact raisesOrPerforms_raise h

theorem deriveNote_performs (h : exec .deriveNote s = .next t) : Performs .deriveNote s t := by
  rw [exec, execDeriveNote, State.command_of_ok hf] at h
  split at h
  · cases h
  next hdiv => cases h; exact .deriveNote hdiv

theorem setFlipProb_cases {p : Half} (h : exec (.setFlipProb p) s = .next t) :
    RaisesOrPerforms (.setFlipProb p) s t := by
  rw [exec, execSetFlipProb, State.command_of_ok hf] at h
  split at h
  · exact raisesOrPerforms_raise h
  next hp => cases h; exact .inr (.setFlipProb (by omega))

theorem setRange_cases {k : Half} (h : exec (.setRange k) s = .next t) :
    RaisesOrPerforms (.setRange k) s t := by
  rw [exec, execSetRange, State.command_of_ok hf] at h
  split at h
  · exact raisesOrPerforms_raise h
  next d hrom =>
    split at h
    · exact raisesOrPerforms_raise h
    next hd =>
      cases h
      split at hrom
      · cases hrom
      next hk => exact .inr (.setRange (by omega) hrom hd)

theorem setScale_cases {sel : Half} (h : exec (.setScale sel) s = .next t) :
    RaisesOrPerforms (.setScale sel) s t := by
  rw [exec, execSetScale, State.command_of_ok hf] at h
  split at h
  · exact raisesOrPerforms_raise h
  next hsel => cases h; exact .inr (.setScale (by omega))

theorem setNote_performs {note : Half} (h : exec (.setNote note) s = .next t) :
    Performs (.setNote note) s t := by
  rw [exec, execSetNote, State.command_of_ok hf] at h
  split at h
  · cases h
  next o m hres => cases h; exact .setNote hres

theorem getCode_performs (h : exec .getCode s = .next t) : Performs .getCode s t := by
  rw [exec, execGetCode, State.command_of_ok hf] at h
  split at h
  next hidx => cases h; exact .getCodeClamped hidx
  next hidx => cases h; exact .getCodeInTable (by omega)

/-- A command whose rule has no check and no port action does what its rule says. -/
theorem unchecked_performs {i : Instr} {u : State} (hu : Performs i s u)
    (hi : exec i s = s.command fun _ => .next u) (h : exec i s = .next t) :
    Performs i s t := by
  rw [hi, State.command_of_ok hf] at h
  cases h
  exact hu

/-- Every command in an unfaulted state, by its own lemma. -/
theorem command_cases {i : Instr} (hi : i.isCommand = true) (h : exec i s = .next t) :
    RaisesOrPerforms i s t := by
  cases i with
  | configure => exact configure_cases hf h
  | start => exact start_cases hf h
  | stop => exact .inr (stop_performs hf h)
  | setDivisor => exact setDivisor_cases hf h
  | setNextOutput => exact setNextOutput_cases hf h
  | sample => cases hi
  | hasTicked => exact .inr (unchecked_performs hf .hasTicked rfl h)
  | ack => exact .inr (unchecked_performs hf .ack rfl h)
  | readAux => exact readAux_cases hf h
  | step => exact .inr (unchecked_performs hf .step rfl h)
  | deriveNote => exact .inr (deriveNote_performs hf h)
  | forceBit => exact .inr (unchecked_performs hf .forceBit rfl h)
  | setFlipProb => exact setFlipProb_cases hf h
  | setRange => exact setRange_cases hf h
  | setScale => exact setScale_cases hf h
  | setNote => exact .inr (setNote_performs hf h)
  | getCode => exact .inr (getCode_performs hf h)
  | getSemitone => exact .inr (unchecked_performs hf .getSemitone rfl h)

end Unfaulted

/-- The tick-fired operation is the only instruction that is no command (spec/00 R2). -/
theorem eq_sample_of_not_command {i : Instr} (hi : i.isCommand = false) : i = .sample := by
  cases i
  case sample => rfl
  all_goals cases hi

/-- Everything an instruction that answers a next state can have done. -/
theorem exec_cases {i : Instr} {s t : State} (h : exec i s = .next t) :
    (i.isCommand = true ∧ s.fault = true ∧ t = s.refuse) ∨
    (i = .sample ∧ (s.running = false ∨ s.fault = true) ∧ t = s) ∨
    (s.fault = false ∧ ∃ c, t = s.raise c) ∨
    (s.fault = false ∧ Performs i s t) := by
  cases hi : i.isCommand with
  | false =>
    obtain rfl := eq_sample_of_not_command hi
    obtain ⟨hrun, hf, hs⟩ | ⟨hdrop, hs⟩ := exec_sample_cases s
    · obtain rfl : s.sampleClock.sampleAux = t := by simpa [hs] using h
      exact .inr (.inr (.inr ⟨hf, .sample hrun⟩))
    · obtain rfl : s = t := by simpa [hs] using h
      exact .inr (.inl ⟨rfl, hdrop, rfl⟩)
  | true =>
    cases hf : s.fault with
    | true =>
      obtain rfl : s.refuse = t := by simpa [exec_of_fault hi hf] using h
      exact .inl ⟨rfl, rfl, rfl⟩
    | false =>
      obtain hraise | hperf := command_cases hf hi h
      · exact .inr (.inr (.inl ⟨rfl, hraise⟩))
      · exact .inr (.inr (.inr ⟨rfl, hperf⟩))

end Sys2Proof.Proofs
end

section
/-!
PROOFS. The invariants of spec/10 R34: they hold after reset, every instruction and every step keeps them,
and from a state that meets them no step stops.
-/
namespace Sys2Proof.Proofs

open Sys2Proof.Machine

/-! ### Words and tables -/

theorem one_le_of_ne_zero {d : Half} (h : d ≠ 0) : 1 ≤ d := by bv_omega

theorem one_le_of_lt {n d : Half} (h : n < d) : 1 ≤ d := by bv_omega

theorem rangeIndex_toNat_lt {k : BitVec 4} (h : k ≤ 9) : k.toNat < 10 := by
  rw [BitVec.le_def] at h
  exact Nat.lt_succ_of_le h

theorem extractNibble_toNat {k : Half} (h : k.toNat < 16) : (k.extractLsb' 0 4).toNat = k.toNat := by
  simp only [BitVec.extractLsb'_toNat, Nat.shiftRight_zero]
  exact Nat.mod_eq_of_lt h

/-- A scale number that is not the chromatic sentinel names a stored table (spec/10 R25). -/
theorem romScale_of_selected {c : Config} {sel : Half} (hsel : sel.toNat ≤ c.numScales) (hne : sel ≠ 0) :
    ∃ table ∈ c.scaleRom, c.romScale (sel.toNat - 1) = some table := by
  have hnz : sel.toNat ≠ 0 := fun h => hne (BitVec.eq_of_toNat_eq h)
  have hlt : sel.toNat - 1 < c.scaleRom.length := by
    rw [Config.numScales] at hsel
    omega
  exact ⟨_, List.getElem_mem hlt, List.getElem?_eq_getElem hlt⟩

/-- Under the chromatic scale or a stored one every note resolves, to an octave at most one above its own and
to a semitone below the sentinel (spec/42 R122, spec/20 R53). -/
theorem resolveNote_bounded {s : State} (hv : s.cfg.Valid) (hsel : s.scaleSel.toNat ≤ s.cfg.numScales)
    (note : Nat) : ∃ o m, s.resolveNote note = some (o, m) ∧ o ≤ note / 12 + 1 ∧ m ≤ 11 := by
  by_cases hne : s.scaleSel = 0
  · exact ⟨note / 12, note % 12, by simp [State.resolveNote, hne], by omega, by omega⟩
  obtain ⟨table, hmem, hrom⟩ := romScale_of_selected hsel hne
  obtain ⟨-, -, ⟨-, hscales⟩, -⟩ := hv
  obtain ⟨m, hsnap, hm⟩ := snapUp_isSome (hscales table hmem) (raw := note % 12) (by omega)
  have hres : s.resolveNote note = if m = 12 then some (note / 12 + 1, 0) else some (note / 12, m) := by
    simp only [State.resolveNote, if_neg hne, hrom, Option.bind_some, hsnap]
  by_cases hwrap : m = 12
  · exact ⟨note / 12 + 1, 0, by rw [hres, if_pos hwrap], by omega, by omega⟩
  · exact ⟨note / 12, m, by rw [hres, if_neg hwrap], by omega, by omega⟩

/-! ### After reset -/

theorem inv_resetWith {c : Config} (hv : c.Valid) : Inv (State.resetWith c) := by
  have hvalid := hv
  obtain ⟨-, -, -, -, -, -, hedge, hflip, hrange, hscale, hoctave, hsemitone⟩ := hvalid
  have hrom := romDivtab_of_lt c (rangeIndex_toNat_lt hrange)
  have hdiv : (State.resetWith c).rangeDivisor =
      c.divisorTable[c.resetValues.rangeIndex.toNat]'(rangeIndex_toNat_lt hrange) := by
    simp [State.resetWith, hrom]
  exact {
    cfg_valid := hv
    edgeCounter_lt := hedge
    divisor_pos := one_le_of_lt hedge
    rangeIndex_le := hrange
    rangeDivisor_eq := hdiv ▸ hrom
    rangeDivisor_pos := one_le_of_ne_zero (romDivtab_pos hv (hdiv ▸ hrom))
    flipNum_lt := hflip
    scaleSel_le := hscale
    octave_le := hoctave
    semitone_le := hsemitone
    fault_stops := nofun
    running_configured := nofun
    history_empty := ⟨fun _ => rfl, fun _ => rfl⟩
    history_last := rfl
    cause_iff := ⟨nofun, fun h => absurd rfl h⟩ }

/-! ### Operations -/

/-- The invariants speak of no field that belongs to the environment or to the record of the ports. -/
theorem inv_of_environment {s : State} (h : Inv s) {q : List Arrival} {a : List Sample} {d : List Half}
    {reads draws ties : Nat} {es : List PortEvent} :
    Inv { s with
      arrivals := q, sampleAnswers := a, drawAnswers := d, reads := reads, draws := draws, ties := ties,
      trace := es } :=
  { h with }

theorem inv_logged {s : State} (h : Inv s) (es : List PortEvent) : Inv (s.logged es) := inv_of_environment h

theorem inv_raise {s : State} (h : Inv s) (c : Cause) : Inv (s.raise c) :=
  { h with
    fault_stops := fun _ => rfl
    running_configured := nofun
    cause_iff := ⟨fun _ => nofun, fun _ => rfl⟩ }

theorem inv_resetStrobe {s : State} (h : Inv s) : Inv s.resetStrobe :=
  inv_of_environment (inv_resetWith h.cfg_valid)

/-- An edge that does not trigger leaves the count below the divisor, also after the increment. -/
theorem edgeCounter_succ_lt {s : State} (h : Inv s) (hedge : s.edgeNext = true)
    (htrig : s.triggerNext = false) : s.edgeCounter + 1 < s.divisor := by
  have hne : s.edgeCounter.toNat + 1 ≠ s.divisor.toNat := by
    simpa [State.triggerNext, hedge] using htrig
  have := h.edgeCounter_lt
  bv_omega

theorem inv_performedSample {s : State} (h : Inv s) : Inv s.sampleClock.sampleAux := by
  have hreads : Inv (sampleReads s) := { h with }
  obtain ⟨-, hs⟩ | ⟨hedge, htrig, hs⟩ | ⟨-, hs⟩ := performedSample_cases s <;> rw [hs]
  · exact hreads
  · exact { hreads with edgeCounter_lt := edgeCounter_succ_lt h hedge htrig }
  · exact { hreads with
      edgeCounter_lt := by
        have : 1 ≤ s.divisor := h.divisor_pos
        show 0 < s.divisor
        bv_omega
      history_empty := by simp
      history_last := by simp }

/-! ### Instructions and steps -/

theorem inv_performs {i : Instr} {s t : State} (h : Inv s) (hf : s.fault = false) (hp : Performs i s t) :
    Inv t := by
  cases hp with
  | configure => exact { h with running_configured := fun _ => rfl }
  | start hconf =>
    exact { h with
      fault_stops := fun hfault => absurd (hf.symm.trans hfault) nofun
      running_configured := fun _ => hconf }
  | stop => exact { h with fault_stops := fun _ => rfl, running_configured := nofun }
  | @setDivisor _ n hn =>
    have hcount : 0 < n := by bv_omega
    exact { h with edgeCounter_lt := hcount, divisor_pos := one_le_of_ne_zero hn }
  | sample => exact inv_performedSample h
  | setNextOutput | ack | step | forceBit => exact { h with }
  | hasTicked | readAux | deriveNote | getCodeInTable | getCodeClamped | getSemitone => exact inv_logged h _
  | setFlipProb hflip => exact { h with flipNum_lt := hflip }
  | @setRange _ k d hk hrom hd =>
    have hindex : (k.extractLsb' 0 4).toNat = k.toNat := extractNibble_toNat (by omega)
    exact { h with
      rangeIndex_le := BitVec.le_def.mpr (hindex ▸ hk)
      rangeDivisor_eq := hindex ▸ hrom
      rangeDivisor_pos := one_le_of_ne_zero hd }
  | setScale hsel => exact { h with scaleSel_le := hsel }
  | @setNote _ note o m hres =>
    obtain ⟨o', m', hres', ho, hm⟩ := resolveNote_bounded h.cfg_valid h.scaleSel_le note.toNat
    obtain ⟨rfl, rfl⟩ : o' = o ∧ m' = m := by simpa [hres'] using hres
    have hoctave : BitVec.ofNat 16 o' ≤ 5462 := by bv_omega
    have hsemitone : BitVec.ofNat 4 m' ≤ 11 := by bv_omega
    exact { h with octave_le := hoctave, semitone_le := hsemitone }

theorem inv_exec {i : Instr} {s t : State} (h : Inv s) (he : exec i s = .next t) : Inv t := by
  obtain ⟨-, -, rfl⟩ | ⟨-, -, rfl⟩ | ⟨-, c, rfl⟩ | ⟨hf, hp⟩ := exec_cases he
  · exact inv_logged h _
  · exact h
  · exact inv_raise h c
  · exact inv_performs h hf hp

theorem inv_undecoded {s : State} (h : Inv s) (p : PortWord) : Inv (s.undecoded p) := by
  cases p with
  | cmd w =>
    show Inv s.rejectWord
    unfold State.rejectWord
    split
    · exact inv_logged h _
    · exact inv_raise h _
  | tick b => exact h

/-- The state in which the next event is served meets the invariants too. -/
theorem inv_nextEvent {s u : State} {e : Strobe} (h : Inv s) (he : s.nextEvent = some (e, u)) : Inv u := by
  rw [State.nextEvent_state he]
  exact inv_of_environment h

theorem inv_step {s t : State} (h : Inv s) (hs : step s = .next t) : Inv t := by
  obtain ⟨-, rfl⟩ | ⟨e, u, hevent, hserved⟩ := step_cases hs
  · exact h
  have hu : Inv u := inv_nextEvent h hevent
  obtain ⟨-, rfl⟩ | ⟨p, i, -, -, hexec⟩ | ⟨p, -, -, rfl⟩ := hserved
  · exact inv_resetStrobe hu
  · exact inv_exec hu hexec
  · exact inv_undecoded hu p

/-! ### No step stops -/

/-- A command is answered when its own rule is; the prologue never stops. -/
theorem command_isNext {s : State} {body : State → Answer} (h : ∃ t, body s = .next t) :
    ∃ t, s.command body = .next t := by
  cases hf : s.fault with
  | true => exact ⟨_, State.command_of_fault hf body⟩
  | false => rwa [State.command_of_ok hf]

/-- A check that answers a next state when it fails never stops by itself. -/
theorem check_isNext {p : Prop} [Decidable p] {u : State} {o : Answer} (h : ∃ t, o = .next t) :
    ∃ t, (if p then .next u else o) = (.next t : Answer) := by
  split
  · exact ⟨u, rfl⟩
  · exact h

theorem setRange_isNext (k : Half) (s : State) : ∃ t, exec (.setRange k) s = .next t := by
  simp only [exec, execSetRange]
  refine command_isNext ?_
  split
  · exact ⟨_, rfl⟩
  · exact check_isNext ⟨_, rfl⟩

/-- Only DERIVE_NOTE and SET_NOTE can stop, and the invariants rule out both (spec/20 R53, spec/42 R135). -/
theorem exec_isNext {s : State} (h : Inv s) (i : Instr) : ∃ t, exec i s = .next t := by
  cases i with
  | configure =>
    simp only [exec, execConfigure]
    exact command_isNext (check_isNext (check_isNext (check_isNext ⟨_, rfl⟩)))
  | start | setDivisor | setNextOutput | setFlipProb | setScale | getCode =>
    simp only [exec, execStart, execSetDivisor, execSetNextOutput, execSetFlipProb, execSetScale, execGetCode]
    exact command_isNext (check_isNext ⟨_, rfl⟩)
  | stop | hasTicked | ack | step | forceBit | getSemitone =>
    simp only [exec, execStop, execHasTicked, execAck, execStep, execForceBit, execGetSemitone]
    exact command_isNext ⟨_, rfl⟩
  | sample => exact ⟨_, rfl⟩
  | readAux =>
    simp only [exec, execReadAux]
    refine command_isNext ?_
    split <;> exact ⟨_, rfl⟩
  | deriveNote =>
    have hdiv : s.rangeDivisor ≠ 0 := romDivtab_pos h.cfg_valid h.rangeDivisor_eq
    simp only [exec, execDeriveNote]
    exact command_isNext ⟨_, if_neg hdiv⟩
  | setRange k => exact setRange_isNext k s
  | setNote note =>
    obtain ⟨o, m, hres, -⟩ := resolveNote_bounded h.cfg_valid h.scaleSel_le note.toNat
    simp only [exec, execSetNote]
    exact command_isNext ⟨_, by simp only [hres]; exact State.done_eq _⟩

theorem step_isNext {s : State} (h : Inv s) : ∃ t, step s = .next t := by
  unfold step fetch
  cases hevent : s.nextEvent with
  | none => exact ⟨s, rfl⟩
  | some eu =>
    obtain ⟨e, u⟩ := eu
    cases e with
    | reset => exact ⟨_, rfl⟩
    | port p =>
      cases hdec : decodePort p with
      | none => exact ⟨u.undecoded p, by simp only [serve, hdec]⟩
      | some i =>
        obtain ⟨t, ht⟩ := exec_isNext (inv_nextEvent h hevent) i
        exact ⟨t, by simpa only [serve, hdec] using ht⟩

/-- Safety of runs: `inv_step` and `step_isNext` along any number of steps. -/
theorem run_of_inv (k : Nat) {s : State} (h : Inv s) : ∃ t, Host.Core.run core k s = .next t ∧ Inv t := by
  induction k generalizing s with
  | zero => exact ⟨s, rfl, h⟩
  | succ k ih =>
    obtain ⟨u, hu⟩ := step_isNext h
    obtain ⟨t, hrun, ht⟩ := ih (inv_step h hu)
    refine ⟨t, ?_, ht⟩
    have hcore : core.step s = .next u := hu
    simpa only [Host.Core.run, hcore] using hrun

/-- Settles O14: reset of any legal block, P0 among them. -/
theorem invariantsHoldAfterReset : Obligations.InvariantsHoldAfterReset := by
  unfold Obligations.InvariantsHoldAfterReset
  exact ⟨inv_resetWith p0_valid, fun _ hv => inv_resetWith hv⟩

/-- Settles O15, by what the next event can be and what serving it can do. -/
theorem stepKeepsTheInvariants : Obligations.StepKeepsTheInvariants := by
  unfold Obligations.StepKeepsTheInvariants
  exact fun _ _ h hs => inv_step h hs

/-- Settles O17, by induction on the number of steps. -/
theorem runsAfterResetStaySafe : Obligations.RunsAfterResetStaySafe := by
  unfold Obligations.RunsAfterResetStaySafe
  intro c q a d k hv
  exact run_of_inv k (inv_of_environment (inv_resetWith hv))

end Sys2Proof.Proofs
end

section
/-!
PROOFS. Who writes the registers of spec/10: the event flag (R15), the analog output (R29) and the control
registers (R32), and what they hold after reset (R35).
-/
namespace Sys2Proof.Proofs

open Sys2Proof.Machine

/-- What an instruction can do to the event flag (spec/10 R15). -/
theorem exec_tickFlag {i : Instr} {s t : State} (h : exec i s = .next t) :
    t.tickFlag = s.tickFlag ∨ (i = .sample ∧ s.triggerNext = true ∧ t.tickFlag = true) ∨
      (i = .ack ∧ t.tickFlag = false) := by
  obtain ⟨-, -, rfl⟩ | ⟨-, -, rfl⟩ | ⟨-, c, rfl⟩ | ⟨-, hp⟩ := exec_cases h
  iterate 3 exact .inl rfl
  cases hp
  case ack => exact .inr (.inr ⟨rfl, rfl⟩)
  case sample =>
    obtain ⟨-, hs⟩ | ⟨-, -, hs⟩ | ⟨htrig, hs⟩ := performedSample_cases s <;> rw [hs]
    · exact .inl rfl
    · exact .inl rfl
    · exact .inr (.inl ⟨rfl, htrig, rfl⟩)
  all_goals exact .inl rfl

/-- Settles O19: an instruction leaves the flag, or is a triggering SAMPLE that raises it, or ACK. -/
theorem tickFlagIsRaisedBySampleAndLoweredByAck : Obligations.TickFlagIsRaisedBySampleAndLoweredByAck := by
  unfold Obligations.TickFlagIsRaisedBySampleAndLoweredByAck
  intro i s t h
  obtain hkeep | ⟨hi, htrig, hup⟩ | ⟨hi, hdown⟩ := exec_tickFlag h
  · simp +contextual [hkeep]
  · simp [hi, htrig, hup]
  · simp [hi, hdown]

/-- Settles O20: only a trigger reaches `IoWrite`, and it passes the buffered code. -/
theorem outputIsWrittenBySampleOnly : Obligations.OutputIsWrittenBySampleOnly := by
  unfold Obligations.OutputIsWrittenBySampleOnly
  intro i s t h
  obtain ⟨-, -, rfl⟩ | ⟨-, -, rfl⟩ | ⟨-, c, rfl⟩ | ⟨-, hp⟩ := exec_cases h
  iterate 3 exact .inl ⟨rfl, rfl⟩
  cases hp
  case sample =>
    obtain ⟨-, hs⟩ | ⟨-, -, hs⟩ | ⟨-, hs⟩ := performedSample_cases s <;> rw [hs]
    · exact .inl ⟨rfl, rfl⟩
    · exact .inl ⟨rfl, rfl⟩
    · exact .inr ⟨rfl, rfl, rfl⟩
  all_goals exact .inl ⟨rfl, rfl⟩

/-- SAMPLE writes no control register (spec/10 R32). -/
theorem performedSample_control (s : State) :
    let t := s.sampleClock.sampleAux
    t.configuration = s.configuration ∧ t.divisor = s.divisor ∧ t.bufferedOutput = s.bufferedOutput ∧
      t.flipNum = s.flipNum ∧ t.rangeIndex = s.rangeIndex ∧ t.rangeDivisor = s.rangeDivisor ∧
      t.scaleSel = s.scaleSel ∧ t.running = s.running := by
  obtain ⟨-, hs⟩ | ⟨-, -, hs⟩ | ⟨-, hs⟩ := performedSample_cases s <;> rw [hs] <;>
    exact ⟨rfl, rfl, rfl, rfl, rfl, rfl, rfl, rfl⟩

/-- Settles O22: a refused, dropped or failed instruction writes no control register, and each performed one
writes its own or none. -/
theorem controlRegistersHaveOneWriter : Obligations.ControlRegistersHaveOneWriter := by
  unfold Obligations.ControlRegistersHaveOneWriter
  intro i s t h
  obtain ⟨-, -, rfl⟩ | ⟨-, -, rfl⟩ | ⟨-, c, rfl⟩ | ⟨-, hp⟩ := exec_cases h
  · simp +contextual [State.configuration]
  · simp +contextual
  · simp [State.configuration]
  · cases hp
    case sample =>
      obtain ⟨hconf, hdiv, hout, hflip, hindex, hrange, hscale, hrun⟩ := performedSample_control s
      simp +contextual [hconf, hdiv, hout, hflip, hindex, hrange, hscale, hrun]
    all_goals simp +contextual [State.configuration]

/-- Settles O11: the defaults of `ResetValues` are the table, and `rangeDivisor` follows the reset index 0. -/
theorem resetStateHoldsTheTable : Obligations.ResetStateHoldsTheTable := by
  unfold Obligations.ResetStateHoldsTheTable
  intro c hc
  have hrom : c.romDivtab 0 = some c.divisorTable[0] := romDivtab_of_lt c (by decide)
  simp [State.resetWith, hc, hrom, Polarity.bit, causeCode]

end Sys2Proof.Proofs
end

section
/-!
PROOFS. Steps by the head of the queue (spec/20 R48): what a step does with the next event, which a
same-instant pair brings first (R57), and what no step can reach: a stop of the machine (R58) or a parameter
(R40, R56).
-/
namespace Sys2Proof.Proofs

open Sys2Proof.Machine

/-! ### The next event -/

theorem nextEvent_of_empty {s : State} (h : s.arrivals = []) : s.nextEvent = none := by
  simp only [State.nextEvent, h]

theorem nextEvent_of_one {s : State} {e : Strobe} {rest : List Arrival} (h : s.arrivals = .one e :: rest) :
    s.nextEvent = some (e, { s with arrivals := rest }) := by
  simp only [State.nextEvent, h]

/-- A same-instant pair is taken apart as one of its two serial orders (spec/20 R57). -/
theorem nextEvent_of_together {s : State} {w : CmdWord} {rest : List Arrival}
    (h : s.arrivals = .together w :: rest) :
    s.nextEvent = if s.commandFirst w then
        some (.port (.cmd w), { s with arrivals := .one Strobe.tick :: rest, ties := s.ties + 1 })
      else
        some (Strobe.tick, { s with arrivals := .one (.port (.cmd w)) :: rest, ties := s.ties + 1 }) := by
  simp only [State.nextEvent, h]

/-- An ACK never waits for the tick of its instant, whatever the free order says (spec/20 R57). -/
theorem commandFirst_of_ack {w : CmdWord} (h : decodeCmd w = some .ack) (s : State) :
    s.commandFirst w = true := by
  simp [State.commandFirst, h]

/-! ### The step by the next event -/

theorem step_of_noEvent {s : State} (h : s.nextEvent = none) : step s = .next s := by
  simp only [step, fetch, h]

theorem step_of_decoded {s u : State} {p : PortWord} {i : Instr} (h : s.nextEvent = some (.port p, u))
    (hp : decodePort p = some i) : step s = exec i u := by
  simp only [step, fetch, h, serve, hp]

theorem step_of_undecoded {s u : State} {p : PortWord} (h : s.nextEvent = some (.port p, u))
    (hp : decodePort p = none) : step s = .next (u.undecoded p) := by
  simp only [step, fetch, h, serve, hp]

/-- Two states that leave the same event to be served in the same state step alike. -/
theorem step_congr {s s' u : State} {e : Strobe} (h : s.nextEvent = some (e, u))
    (h' : s'.nextEvent = some (e, u)) : step s = step s' := by
  simp only [step, fetch, h, h']

/-- Settles O7: an empty queue brings no event, and a 0 on `tick` is no instruction. -/
theorem nothingHappensWithoutAnEvent : Obligations.NothingHappensWithoutAnEvent := by
  unfold Obligations.NothingHappensWithoutAnEvent
  exact ⟨fun _ h => step_of_noEvent (nextEvent_of_empty h),
    fun _ _ h => step_of_undecoded (nextEvent_of_one h) (by decide)⟩

/-! ### Same-instant arrivals -/

/-- ACK in an unfaulted state (spec/40 R89). -/
theorem exec_ack_of_ok {s : State} (hf : s.fault = false) :
    exec .ack s = .next ({ s with tickFlag := false }.logged [okRsp 0]) := by
  rw [exec, execAck, State.command_of_ok hf, State.done_eq]

/-- A tick that triggers raises the flag and leaves the queue (spec/40 R87). -/
theorem exec_sample_of_trigger {s : State} (hf : s.fault = false) (hrun : s.running = true)
    (htrig : s.triggerNext = true) :
    ∃ t, exec .sample s = .next t ∧ t.tickFlag = true ∧ t.arrivals = s.arrivals := by
  refine ⟨s.sampleClock.sampleAux, by simp [exec, execSample, hrun, hf], ?_⟩
  obtain ⟨hedge, -⟩ | ⟨-, hnot, -⟩ | ⟨-, hs⟩ := performedSample_cases s
  · simp [State.triggerNext, hedge] at htrig
  · exact absurd (htrig.symm.trans hnot) nofun
  · rw [hs]
    exact ⟨rfl, rfl⟩

/-- What the ACK of a same-instant pair leaves when `rest` arrives after the pair: the flag down, the tick
still to be served, and a response (spec/20 R57, spec/40 R89). -/
def ackServed (rest : List Arrival) (s : State) : State :=
  { s with tickFlag := false, arrivals := .one Strobe.tick :: rest, ties := s.ties + 1 }.logged [okRsp 0]

/-- The first step on an ACK and a tick of one instant performs the ACK and leaves the tick (spec/20 R57). -/
theorem step_of_ackTogether {s : State} {w : CmdWord} {rest : List Arrival} (hw : decodeCmd w = some .ack)
    (harr : s.arrivals = .together w :: rest) (hf : s.fault = false) :
    step s = .next (ackServed rest s) := by
  have hevent := nextEvent_of_together harr
  rw [if_pos (commandFirst_of_ack hw s)] at hevent
  exact (step_of_decoded hevent hw).trans (exec_ack_of_ok hf)

/-- A triggering tick at the head of the queue raises the flag and is taken off (spec/40 R87). -/
theorem step_of_triggeringTick {s : State} {rest : List Arrival}
    (harr : s.arrivals = .one Strobe.tick :: rest) (hf : s.fault = false) (hrun : s.running = true)
    (htrig : s.triggerNext = true) :
    ∃ t, step s = .next t ∧ t.tickFlag = true ∧ t.arrivals = rest := by
  have hstep : step s = exec .sample { s with arrivals := rest } :=
    step_of_decoded (nextEvent_of_one harr) (by decide)
  rw [hstep]
  exact exec_sample_of_trigger hf hrun htrig

/-- A step on a same-instant pair is the step on one of its two serial orders (spec/20 R57). -/
theorem step_of_together {s : State} {w : CmdWord} {rest : List Arrival}
    (h : s.arrivals = .together w :: rest) :
    step s = step { s with
      arrivals := .one (.port (.cmd w)) :: .one Strobe.tick :: rest, ties := s.ties + 1 } ∨
    step s = step { s with
      arrivals := .one Strobe.tick :: .one (.port (.cmd w)) :: rest, ties := s.ties + 1 } := by
  have hevent := nextEvent_of_together h
  split at hevent
  · exact .inl (step_congr hevent (nextEvent_of_one rfl))
  · exact .inr (step_congr hevent (nextEvent_of_one rfl))

/-- Settles O13: the ACK's own step lowers the flag and touches nothing the trigger depends on; and any pair is
taken apart in one order or the other. -/
theorem sameInstantArrivalsAreSerialised : Obligations.SameInstantArrivalsAreSerialised := by
  unfold Obligations.SameInstantArrivalsAreSerialised
  refine ⟨fun s rest harr hf hrun htrig => ?_, fun _ _ _ h => step_of_together h⟩
  have hack : step s = .next (ackServed rest s) := step_of_ackTogether (by decide) harr hf
  obtain ⟨u, htick, hflag, hrest⟩ := step_of_triggeringTick (s := ackServed rest s) rfl hf hrun htrig
  exact ⟨ackServed rest s, u, hack, rfl, rfl, htick, hflag, hrest⟩

/-! ### What no step reaches -/

/-- Settles O16: the two stops need a scale or a range divisor that the invariants rule out. -/
theorem safeStateNeverStops : Obligations.SafeStateNeverStops := by
  unfold Obligations.SafeStateNeverStops
  exact fun _ h => step_isNext h

theorem performedSample_cfg (s : State) : s.sampleClock.sampleAux.cfg = s.cfg := by
  obtain ⟨-, hs⟩ | ⟨-, -, hs⟩ | ⟨-, hs⟩ := performedSample_cases s <;> rw [hs] <;> rfl

/-- No instruction has a rule that writes a parameter (spec/20 R40). -/
theorem exec_cfg {i : Instr} {s t : State} (h : exec i s = .next t) : t.cfg = s.cfg := by
  obtain ⟨-, -, rfl⟩ | ⟨-, -, rfl⟩ | ⟨-, c, rfl⟩ | ⟨-, hp⟩ := exec_cases h
  iterate 3 rfl
  cases hp
  case sample => exact performedSample_cfg s
  all_goals rfl

theorem undecoded_cfg (p : PortWord) (s : State) : (s.undecoded p).cfg = s.cfg := by
  cases p with
  | cmd w =>
    show s.rejectWord.cfg = s.cfg
    unfold State.rejectWord
    split <;> rfl
  | tick b => rfl

theorem nextEvent_cfg {s u : State} {e : Strobe} (h : s.nextEvent = some (e, u)) : u.cfg = s.cfg := by
  rw [State.nextEvent_state h]

/-- Settles O18: neither the reset strobe, nor an instruction, nor a word that is none, writes a parameter. -/
theorem parametersNeverChange : Obligations.ParametersNeverChange := by
  unfold Obligations.ParametersNeverChange
  intro s t h
  obtain ⟨-, rfl⟩ | ⟨e, u, hevent, hserved⟩ := step_cases h
  · rfl
  rw [← nextEvent_cfg hevent]
  obtain ⟨-, rfl⟩ | ⟨p, i, -, -, hexec⟩ | ⟨p, -, -, rfl⟩ := hserved
  · rfl
  · exact exec_cfg hexec
  · exact undecoded_cfg p u

end Sys2Proof.Proofs
end

section
/-!
PROOFS. The barrier of spec/20 R50: what a stopped block leaves alone until a START.
-/
namespace Sys2Proof.Proofs

open Sys2Proof.Machine

/-- A sequence of instructions completes when its first one does and the others do from there. -/
theorem execAll_cons {i : Instr} {is : List Instr} {s t : State} :
    execAll (i :: is) s = .next t ↔ ∃ u, exec i s = .next u ∧ execAll is u = .next t := by
  simp only [execAll]
  cases exec i s <;> simp [Answer.andThen]

/-- `StoppedSince s t`: `t` is stopped, and since `s` nothing was sampled, dispatched or triggered. -/
structure StoppedSince (s t : State) : Prop where
  running : t.running = false
  lastSample : t.lastSample = s.lastSample
  auxSample : t.auxSample = s.auxSample
  outHistory : t.outHistory = s.outHistory
  dacLast : t.dacLast = s.dacLast
  reads : t.reads = s.reads
  tickFlag : s.tickFlag = false → t.tickFlag = false

theorem StoppedSince.refl {s : State} (h : s.running = false) : StoppedSince s s :=
  ⟨h, rfl, rfl, rfl, rfl, rfl, id⟩

theorem StoppedSince.trans {s t u : State} (hst : StoppedSince s t) (htu : StoppedSince t u) :
    StoppedSince s u where
  running := htu.running
  lastSample := htu.lastSample.trans hst.lastSample
  auxSample := htu.auxSample.trans hst.auxSample
  outHistory := htu.outHistory.trans hst.outHistory
  dacLast := htu.dacLast.trans hst.dacLast
  reads := htu.reads.trans hst.reads
  tickFlag := htu.tickFlag ∘ hst.tickFlag

/-- Stopped, a block drops its ticks (spec/60 R149), and no command but START sets `running` or samples. -/
theorem exec_of_stopped {i : Instr} {s t : State} (hstop : s.running = false) (hi : i ≠ .start)
    (h : exec i s = .next t) : StoppedSince s t := by
  obtain ⟨-, -, rfl⟩ | ⟨-, -, rfl⟩ | ⟨-, c, rfl⟩ | ⟨-, hp⟩ := exec_cases h
  · exact ⟨hstop, rfl, rfl, rfl, rfl, rfl, id⟩
  · exact .refl hstop
  · exact ⟨rfl, rfl, rfl, rfl, rfl, rfl, id⟩
  · cases hp
    case start => exact absurd rfl hi
    case sample hrun => exact absurd (hstop.symm.trans hrun) nofun
    case stop => exact ⟨rfl, rfl, rfl, rfl, rfl, rfl, id⟩
    case ack => exact ⟨hstop, rfl, rfl, rfl, rfl, rfl, fun _ => rfl⟩
    all_goals exact ⟨hstop, rfl, rfl, rfl, rfl, rfl, id⟩

theorem execAll_of_stopped {is : List Instr} {s t : State} (hstop : s.running = false)
    (his : ∀ i ∈ is, i ≠ .start) (h : execAll is s = .next t) : StoppedSince s t := by
  induction is generalizing s with
  | nil =>
    cases h
    exact .refl hstop
  | cons i is ih =>
    obtain ⟨u, hexec, hrest⟩ := execAll_cons.mp h
    obtain ⟨hi, his⟩ := List.forall_mem_cons.mp his
    have hu : StoppedSince s u := exec_of_stopped hstop hi hexec
    exact hu.trans (ih hu.running his hrest)

/-- Settles O41, by induction on the sequence: each of its instructions leaves the block stopped. -/
theorem noSampleBetweenStopAndStart : Obligations.NoSampleBetweenStopAndStart := by
  unfold Obligations.NoSampleBetweenStopAndStart
  intro is s t hstop his h
  obtain ⟨hrun, hlast, haux, hhist, hdac, hreads, hflag⟩ := execAll_of_stopped hstop his h
  exact ⟨hrun, hlast, haux, hhist, hdac, hreads, hflag⟩

end Sys2Proof.Proofs
end

section
/-!
PROOFS. The command formats of spec/30 R61: each field is found where it was put, and a word whose zero field
holds is put together again from its fields. From the two: decoding and encoding are inverse to each other.
-/
namespace Sys2Proof.Proofs

/-! ### Operand codes -/

@[simp] theorem ofBit_bit (pol : Polarity) : Polarity.ofBit pol.bit = pol := by cases pol <;> rfl

theorem bit_ofBit : ∀ b : BitVec 1, (Polarity.ofBit b).bit = b := by decide

/-- The operand of format B as the field it stands in (spec/30 R61). -/
theorem ofBool_getLsbD_zero (w : CmdWord) : BitVec.ofBool (w.getLsbD 0) = w.extractLsb' 0 1 := by
  ext i hi
  obtain rfl : i = 0 := by omega
  simp

/-! ### Decoding an encoded word

A field of a concatenation is found by going down to its part; `Nat.reduceAdd` stays out of the simp sets,
since it would rewrite the widths of the parts. -/

@[simp] theorem cmdOp_encodeN (op : BitVec 8) : cmdOp (encodeN op) = op :=
  BitVec.extractLsb'_append_eq_left

@[simp] theorem cmdOp_encodeB (op : BitVec 8) (b : Bool) : cmdOp (encodeB op b) = op := by
  simp only [cmdOp, encodeB, BitVec.extractLsb'_append_eq_of_le, Nat.reduceLeDiff, Nat.reduceSub,
    BitVec.extractLsb'_eq_self]

@[simp] theorem cmdOp_encodeI (op : BitVec 8) (imm : Half) : cmdOp (encodeI op imm) = op := by
  simp only [cmdOp, encodeI, BitVec.extractLsb'_append_eq_of_le, Nat.reduceLeDiff, Nat.reduceSub,
    BitVec.extractLsb'_eq_self]

@[simp] theorem cmdOp_encodeC (op : BitVec 8) (rate : Half) (pol : Polarity) (low high : Half) :
    cmdOp (encodeC op rate pol low high) = op := by
  simp only [cmdOp, encodeC, BitVec.extractLsb'_append_eq_of_le, Nat.reduceLeDiff, Nat.reduceSub,
    BitVec.extractLsb'_eq_self]

@[simp] theorem decodeN_encodeN (op : BitVec 8) (i : Instr) : decodeN (encodeN op) i = some i :=
  if_pos BitVec.extractLsb'_append_eq_right

/-- The operand of format B is in bit 0 (spec/30 R61). -/
theorem encodeB_getLsbD_zero (op : BitVec 8) (b : Bool) : (encodeB op b).getLsbD 0 = b := by
  rw [encodeB, BitVec.getLsbD_append]
  simp

@[simp] theorem decodeB_encodeB (op : BitVec 8) (b : Bool) (mk : Bool → Instr) :
    decodeB (encodeB op b) mk = some (mk b) := by
  have hzero : (encodeB op b).extractLsb' 1 55 = 0 := by
    simp only [encodeB, BitVec.extractLsb'_append_eq_of_le, BitVec.extractLsb'_append_eq_of_add_le,
      Nat.reduceLeDiff, Nat.reduceSub, BitVec.extractLsb'_eq_self]
  rw [decodeB, if_pos hzero, encodeB_getLsbD_zero]

@[simp] theorem decodeI_encodeI (op : BitVec 8) (imm : Half) (mk : Half → Instr) :
    decodeI (encodeI op imm) mk = some (mk imm) := by
  simp only [decodeI, encodeI, BitVec.extractLsb'_append_eq_of_le, BitVec.extractLsb'_append_eq_of_add_le,
    Nat.reduceLeDiff, Nat.reduceSub, BitVec.extractLsb'_eq_self, if_true]

@[simp] theorem decodeC_encodeC (op : BitVec 8) (rate : Half) (pol : Polarity) (low high : Half)
    (mk : Half → Polarity → Half → Half → Instr) :
    decodeC (encodeC op rate pol low high) mk = some (mk rate pol low high) := by
  simp only [decodeC, encodeC, BitVec.extractLsb'_append_eq_of_le, BitVec.extractLsb'_append_eq_of_add_le,
    Nat.reduceLeDiff, Nat.reduceSub, BitVec.extractLsb'_eq_self, ofBit_bit, if_true]

/-- Settles O1: the opcode selects the row, and the row's format gives back its operands. -/
theorem encodedInstructionsDecodeBack : Obligations.EncodedInstructionsDecodeBack := by
  unfold Obligations.EncodedInstructionsDecodeBack
  intro i
  cases i
  case sample => rfl
  all_goals simp [encode, decodePort, decodeCmd]

/-! ### Encoding a decoded word -/

section Fields

variable {w : CmdWord} {op : BitVec 8} (hop : cmdOp w = op)
include hop

theorem encodeN_of_fields (hzero : w.extractLsb' 0 56 = 0) : encodeN op = w := by
  rw [encodeN, ← hop, cmdOp, ← hzero]
  simp only [BitVec.extractLsb'_append_extractLsb'_eq_extractLsb']
  exact BitVec.extractLsb'_eq_self

theorem encodeB_of_fields (hzero : w.extractLsb' 1 55 = 0) : encodeB op (w.getLsbD 0) = w := by
  rw [encodeB, ← hop, cmdOp, ← hzero, ofBool_getLsbD_zero]
  simp only [BitVec.extractLsb'_append_extractLsb'_eq_extractLsb']
  exact BitVec.extractLsb'_eq_self

theorem encodeI_of_fields (hzero : w.extractLsb' 16 40 = 0) : encodeI op (w.extractLsb' 0 16) = w := by
  rw [encodeI, ← hop, cmdOp, ← hzero]
  simp only [BitVec.extractLsb'_append_extractLsb'_eq_extractLsb']
  exact BitVec.extractLsb'_eq_self

theorem encodeC_of_fields (hzero : w.extractLsb' 49 7 = 0) :
    encodeC op (w.extractLsb' 32 16) (Polarity.ofBit (w.extractLsb' 48 1)) (w.extractLsb' 0 16)
      (w.extractLsb' 16 16) = w := by
  rw [encodeC, ← hop, cmdOp, ← hzero, bit_ofBit]
  simp only [BitVec.extractLsb'_append_extractLsb'_eq_extractLsb']
  exact BitVec.extractLsb'_eq_self

end Fields

/-! Per format: if the row's instructions are encoded in that format under the opcode of `w`, then what the
format decodes `w` to is encoded as `w`. -/

section Rows

variable {w : CmdWord} {n : Nat} {i : Instr} (hop : (cmdOp w).toNat = n)
include hop

theorem cmdOp_eq_ofNat : cmdOp w = BitVec.ofNat 8 n := by
  rw [← hop, BitVec.ofNat_toNat, BitVec.setWidth_eq]

theorem encode_of_decodeN {j : Instr} (hj : encode j = .cmd (encodeN (BitVec.ofNat 8 n)))
    (h : decodeN w j = some i) : encode i = .cmd w := by
  obtain ⟨hzero, ⟨⟩⟩ := Option.ite_none_right_eq_some.mp h
  rw [hj, encodeN_of_fields (cmdOp_eq_ofNat hop) hzero]

theorem encode_of_decodeB {mk : Bool → Instr}
    (hmk : ∀ b, encode (mk b) = .cmd (encodeB (BitVec.ofNat 8 n) b))
    (h : decodeB w mk = some i) : encode i = .cmd w := by
  obtain ⟨hzero, ⟨⟩⟩ := Option.ite_none_right_eq_some.mp h
  rw [hmk, encodeB_of_fields (cmdOp_eq_ofNat hop) hzero]

theorem encode_of_decodeI {mk : Half → Instr}
    (hmk : ∀ imm, encode (mk imm) = .cmd (encodeI (BitVec.ofNat 8 n) imm))
    (h : decodeI w mk = some i) : encode i = .cmd w := by
  obtain ⟨hzero, ⟨⟩⟩ := Option.ite_none_right_eq_some.mp h
  rw [hmk, encodeI_of_fields (cmdOp_eq_ofNat hop) hzero]

theorem encode_of_decodeC {mk : Half → Polarity → Half → Half → Instr}
    (hmk : ∀ rate pol low high, encode (mk rate pol low high) =
      .cmd (encodeC (BitVec.ofNat 8 n) rate pol low high))
    (h : decodeC w mk = some i) : encode i = .cmd w := by
  obtain ⟨hzero, ⟨⟩⟩ := Option.ite_none_right_eq_some.mp h
  rw [hmk, encodeC_of_fields (cmdOp_eq_ofNat hop) hzero]

end Rows

/-- A command word that decodes is its instruction's own word (spec/30 R63). The cases are the rows of
`decodeCmd` in order: CONFIGURE in format C, six rows in format I, FORCE_BIT in format B, no row, and the rows of
format N. -/
theorem encode_of_decodeCmd {w : CmdWord} {i : Instr} (h : decodeCmd w = some i) : encode i = .cmd w := by
  unfold decodeCmd at h
  split at h
  case h_1 hop => exact encode_of_decodeC hop (fun _ _ _ _ => rfl) h
  case h_4 hop | h_5 hop | h_12 hop | h_13 hop | h_14 hop | h_15 hop =>
    exact encode_of_decodeI hop (fun _ => rfl) h
  case h_11 hop => exact encode_of_decodeB hop (fun _ => rfl) h
  case h_18 => cases h
  all_goals next hop => exact encode_of_decodeN hop rfl h

/-- Settles O2: a decoded word's fields are the operands, and its zero field is zero. -/
theorem decodedWordsEncodeBack : Obligations.DecodedWordsEncodeBack := by
  unfold Obligations.DecodedWordsEncodeBack
  intro p i h
  cases p with
  | cmd w => exact encode_of_decodeCmd h
  | tick b =>
    obtain ⟨rfl, ⟨⟩⟩ := Option.ite_none_right_eq_some.mp h
    rfl

end Sys2Proof.Proofs
end

section
/-!
PROOFS. The opcode map of spec/30 R63, row by row: a row accepts exactly the words of its own instruction, so
the decoder and the map name the same one (R64).
-/
namespace Sys2Proof.Proofs

open Sys2Proof.Machine Sys2Proof.Laws

/-- The lemmas of `Sys2Proof.Laws.EncodesOwnRow`, one per constructor, taken together. -/
theorem encodesOwnRow (i : Instr) : EncodesOwnRow.Statement i := by
  cases i with
  | configure rate pol low high => exact EncodesOwnRow.configure rate pol low high
  | start => exact EncodesOwnRow.start
  | stop => exact EncodesOwnRow.stop
  | setDivisor n => exact EncodesOwnRow.setDivisor n
  | setNextOutput code => exact EncodesOwnRow.setNextOutput code
  | sample => exact EncodesOwnRow.sample
  | hasTicked => exact EncodesOwnRow.hasTicked
  | ack => exact EncodesOwnRow.ack
  | readAux => exact EncodesOwnRow.readAux
  | step => exact EncodesOwnRow.step
  | deriveNote => exact EncodesOwnRow.deriveNote
  | forceBit b => exact EncodesOwnRow.forceBit b
  | setFlipProb p => exact EncodesOwnRow.setFlipProb p
  | setRange index => exact EncodesOwnRow.setRange index
  | setScale sel => exact EncodesOwnRow.setScale sel
  | setNote note => exact EncodesOwnRow.setNote note
  | getCode => exact EncodesOwnRow.getCode
  | getSemitone => exact EncodesOwnRow.getSemitone

/-- A word that decodes is accepted by the row with its instruction's mnemonic. -/
theorem row_of_decodeCmd {w : CmdWord} {i : Instr} (h : decodeCmd w = some i) :
    ∃ r ∈ opcodeTable, r.mnemonic = i.mnemonic ∧ r.accepts w = true := by
  have hrow : EncodesOwnRow.Statement i := encodesOwnRow i
  rwa [EncodesOwnRow.Statement, encode_of_decodeCmd h] at hrow

/-! ### What a row accepts -/

/-- Where a row's mask is all ones, an accepted word holds the row's pattern. -/
theorem field_of_accepts {r : OpcodeRow} {w : CmdWord} (h : r.accepts w = true) {start len : Nat}
    (hmask : r.mask.extractLsb' start len = BitVec.allOnes len) :
    w.extractLsb' start len = r.pattern.extractLsb' start len := by
  have hw : w &&& r.mask = r.pattern := by simpa [OpcodeRow.accepts] using h
  rw [← hw, BitVec.extractLsb'_and, hmask, BitVec.and_allOnes]

/-- Every row's mask covers the opcode field (spec/30 R60). -/
theorem cmdOp_of_accepts {r : OpcodeRow} (hr : r ∈ opcodeTable) {w : CmdWord} (h : r.accepts w = true) :
    cmdOp w = cmdOp r.pattern := by
  have hmask : ∀ r ∈ opcodeTable, r.mask.extractLsb' 56 8 = BitVec.allOnes 8 := by decide
  exact field_of_accepts h (hmask r hr)

/-- No two rows accept the same word: their opcodes differ (spec/30 R63). -/
theorem row_unique {r r' : OpcodeRow} (hr : r ∈ opcodeTable) (hr' : r' ∈ opcodeTable) {w : CmdWord}
    (h : r.accepts w = true) (h' : r'.accepts w = true) : r = r' := by
  have hdistinct : ∀ r ∈ opcodeTable, ∀ r' ∈ opcodeTable, cmdOp r.pattern = cmdOp r'.pattern → r = r' := by
    decide
  exact hdistinct r hr r' hr' ((cmdOp_of_accepts hr h).symm.trans (cmdOp_of_accepts hr' h'))

/-- A field that a row wants to be zero is zero in every word it accepts. -/
theorem zeroField_of_accepts {r : OpcodeRow} {w : CmdWord} (h : r.accepts w = true) {start len : Nat}
    (hrow : r.mask.extractLsb' start len = BitVec.allOnes len ∧ r.pattern.extractLsb' start len = 0) :
    w.extractLsb' start len = 0 := by
  obtain ⟨hmask, hpattern⟩ := hrow
  rw [field_of_accepts h hmask, hpattern]

/-- A word that a row accepts is the encoding of an instruction with the row's mnemonic (spec/30 R63). -/
theorem encode_of_accepts {r : OpcodeRow} (hr : r ∈ opcodeTable) {w : CmdWord} (h : r.accepts w = true) :
    ∃ i, encode i = .cmd w ∧ i.mnemonic = r.mnemonic := by
  have hop := cmdOp_of_accepts hr h
  simp only [opcodeTable, List.mem_cons, List.not_mem_nil, or_false] at hr
  obtain rfl | rfl | rfl | rfl | rfl | rfl | rfl | rfl | rfl | rfl | rfl | rfl | rfl | rfl | rfl | rfl | rfl := hr
  · exact ⟨.configure _ _ _ _, congrArg _ (encodeC_of_fields hop (zeroField_of_accepts h (by decide))), rfl⟩
  · exact ⟨.start, congrArg _ (encodeN_of_fields hop (zeroField_of_accepts h (by decide))), rfl⟩
  · exact ⟨.stop, congrArg _ (encodeN_of_fields hop (zeroField_of_accepts h (by decide))), rfl⟩
  · exact ⟨.setDivisor _, congrArg _ (encodeI_of_fields hop (zeroField_of_accepts h (by decide))), rfl⟩
  · exact ⟨.setNextOutput _, congrArg _ (encodeI_of_fields hop (zeroField_of_accepts h (by decide))), rfl⟩
  · exact ⟨.hasTicked, congrArg _ (encodeN_of_fields hop (zeroField_of_accepts h (by decide))), rfl⟩
  · exact ⟨.ack, congrArg _ (encodeN_of_fields hop (zeroField_of_accepts h (by decide))), rfl⟩
  · exact ⟨.readAux, congrArg _ (encodeN_of_fields hop (zeroField_of_accepts h (by decide))), rfl⟩
  · exact ⟨.step, congrArg _ (encodeN_of_fields hop (zeroField_of_accepts h (by decide))), rfl⟩
  · exact ⟨.deriveNote, congrArg _ (encodeN_of_fields hop (zeroField_of_accepts h (by decide))), rfl⟩
  · exact ⟨.forceBit _, congrArg _ (encodeB_of_fields hop (zeroField_of_accepts h (by decide))), rfl⟩
  · exact ⟨.setFlipProb _, congrArg _ (encodeI_of_fields hop (zeroField_of_accepts h (by decide))), rfl⟩
  · exact ⟨.setRange _, congrArg _ (encodeI_of_fields hop (zeroField_of_accepts h (by decide))), rfl⟩
  · exact ⟨.setScale _, congrArg _ (encodeI_of_fields hop (zeroField_of_accepts h (by decide))), rfl⟩
  · exact ⟨.setNote _, congrArg _ (encodeI_of_fields hop (zeroField_of_accepts h (by decide))), rfl⟩
  · exact ⟨.getCode, congrArg _ (encodeN_of_fields hop (zeroField_of_accepts h (by decide))), rfl⟩
  · exact ⟨.getSemitone, congrArg _ (encodeN_of_fields hop (zeroField_of_accepts h (by decide))), rfl⟩

/-- A word that a row accepts decodes to an instruction of that row's mnemonic. -/
theorem decodeCmd_of_accepts {r : OpcodeRow} (hr : r ∈ opcodeTable) {w : CmdWord} (h : r.accepts w = true) :
    ∃ i, decodeCmd w = some i ∧ i.mnemonic = r.mnemonic := by
  obtain ⟨i, hi, hname⟩ := encode_of_accepts hr h
  exact ⟨i, (congrArg decodePort hi).symm.trans (encodedInstructionsDecodeBack i), hname⟩

/-- A word outside the opcode map is no instruction (spec/30 R64). -/
theorem decodeCmd_of_noRow {w : CmdWord} (h : ∀ r ∈ opcodeTable, r.accepts w = false) :
    decodeCmd w = none := by
  refine Option.eq_none_iff_forall_ne_some.mpr fun i hi => ?_
  obtain ⟨r, hr, -, haccepts⟩ := row_of_decodeCmd hi
  exact absurd (haccepts.symm.trans (h r hr)) nofun

/-- Settles O3: if some row accepts the word, the word decodes under its name; if none does, it does not
decode. -/
theorem decoderAgreesWithTheOpcodeMap : Obligations.DecoderAgreesWithTheOpcodeMap := by
  unfold Obligations.DecoderAgreesWithTheOpcodeMap
  intro w
  refine ⟨?_, fun r hr r' hr' h h' => row_unique hr hr' h h'⟩
  cases hfind : opcodeTable.find? (·.accepts w) with
  | none =>
    have hnone : ∀ r ∈ opcodeTable, r.accepts w = false := by simpa using List.find?_eq_none.mp hfind
    simp [decodeCmd_of_noRow hnone]
  | some r =>
    have haccepts : r.accepts w = true := List.find?_some (p := fun r => OpcodeRow.accepts r w) hfind
    obtain ⟨i, hi, hname⟩ := decodeCmd_of_accepts (List.mem_of_find?_eq_some hfind) haccepts
    simp [hi, hname]

/-! ### Illegal words -/

/-- What is left of an arriving command word that is no instruction (spec/30 R65). -/
theorem undecoded_cmd_of_ok {s : State} (hf : s.fault = false) (w : CmdWord) :
    s.undecoded (.cmd w) = s.withError .illegalCmd := by
  rw [State.undecoded, State.rejectWord, hf, if_neg nofun, State.raise_eq_withError]

/-- READ_AUX is an illegal word on a block without the channel (spec/30 R65 c). -/
theorem exec_readAux_of_noAux {s : State} (hf : s.fault = false) (haux : s.cfg.hasAux = false) :
    exec .readAux s = .next (s.withError .illegalCmd) := by
  rw [exec, execReadAux, State.command_of_ok hf, haux, if_neg nofun, State.raise_eq_withError]

/-- Settles O6, by the event the head of the queue brings. -/
theorem stepRunsTheDecodedInstruction : Obligations.StepRunsTheDecodedInstruction := by
  unfold Obligations.StepRunsTheDecodedInstruction
  exact fun _ _ _ _ harr hp => step_of_decoded (nextEvent_of_one harr) hp

/-- Settles O8: a word outside the map is rejected at the port, READ_AUX's by its own rule. -/
theorem illegalWordRaisesIllegalCmd : Obligations.IllegalWordRaisesIllegalCmd := by
  unfold Obligations.IllegalWordRaisesIllegalCmd
  intro s w rest harr hf hillegal
  have hevent := nextEvent_of_one harr
  obtain hnone | ⟨rfl, haux⟩ := hillegal
  · rw [step_of_undecoded hevent (decodeCmd_of_noRow hnone)]
    exact congrArg _ (undecoded_cmd_of_ok (s := { s with arrivals := rest }) hf w)
  · rw [step_of_decoded hevent (i := .readAux) (by decide)]
    exact exec_readAux_of_noAux hf haux

end Sys2Proof.Proofs
end

section
/-!
PROOFS. Responses: the fields of a response word (spec/30 R66, R67), and that every command brings exactly one,
as its last port event, and a tick none (R68, spec/20 R58).
-/
namespace Sys2Proof.Proofs

open Sys2Proof.Machine

/-! ### The response word -/

theorem response_status (r : Response) : r.word.extractLsb' 28 4 = r.status.code := by
  simp only [Response.word, BitVec.extractLsb'_append_eq_of_le, Nat.reduceLeDiff, Nat.reduceSub,
    BitVec.extractLsb'_eq_self]

theorem response_zeroField (r : Response) : r.word.extractLsb' 16 12 = 0 := by
  simp only [Response.word, BitVec.extractLsb'_append_eq_of_le, BitVec.extractLsb'_append_eq_of_add_le,
    Nat.reduceLeDiff, Nat.reduceSub, BitVec.extractLsb'_eq_self]

theorem response_data (r : Response) : r.word.extractLsb' 0 16 = r.data :=
  BitVec.extractLsb'_append_eq_right

/-- Settles O5, field by field; the codes are `Status.code`'s own values. -/
theorem responseWordHasItsFields : Obligations.ResponseWordHasItsFields := by
  unfold Obligations.ResponseWordHasItsFields
  exact ⟨fun r => ⟨response_status r, response_zeroField r, response_data r⟩, rfl, rfl, rfl, rfl⟩

/-! ### Which port events are responses -/

/-- From `s` to `t` the ports carried no response. -/
def Silent (s t : State) : Prop := ∃ es, t.trace = s.trace ++ es ∧ ∀ e ∈ es, e.isRsp = false

/-- From `s` to `t` the ports carried one response, last. -/
def RespondsLast (s t : State) : Prop :=
  ∃ es r, t.trace = s.trace ++ es ++ [.rsp r] ∧ ∀ e ∈ es, e.isRsp = false

theorem silent_of_trace_eq {s t : State} (h : t.trace = s.trace) : Silent s t := ⟨[], by simp [h], nofun⟩

theorem silent_of_event {s t : State} {e : PortEvent} (h : t.trace = s.trace ++ [e])
    (he : e.isRsp = false) : Silent s t := ⟨[e], h, by simpa using he⟩

theorem Silent.trans {s t u : State} (hst : Silent s t) (htu : Silent t u) : Silent s u := by
  obtain ⟨es, ht, hes⟩ := hst
  obtain ⟨fs, hu, hfs⟩ := htu
  refine ⟨es ++ fs, by rw [hu, ht, List.append_assoc], fun e he => ?_⟩
  obtain he | he := List.mem_append.mp he
  · exact hes e he
  · exact hfs e he

/-- A response after no other responds last. -/
theorem Silent.respondsLast {s t : State} (h : Silent s t) (r : Response) :
    RespondsLast s (t.logged [.rsp r]) := by
  obtain ⟨es, ht, hes⟩ := h
  exact ⟨es, r, by rw [State.logged_trace, ht], hes⟩

/-- A command that reports, or writes registers and acknowledges. -/
theorem respondsLast_of_trace_eq {s t : State} (h : t.trace = s.trace) (r : Response) :
    RespondsLast s (t.logged [.rsp r]) := (silent_of_trace_eq h).respondsLast r

/-- A command that acts on a port before it responds. -/
theorem respondsLast_of_event {s t : State} {e : PortEvent} (h : t.trace = s.trace) (he : e.isRsp = false)
    (r : Response) : RespondsLast s (t.logged [e, .rsp r]) := by
  have hsilent : Silent s (t.logged [e]) := silent_of_event (by rw [State.logged_trace, h]) he
  simpa using hsilent.respondsLast r

/-- The exception stops the timer, then responds (spec/60 R143). -/
theorem respondsLast_raise (c : Cause) (s : State) : RespondsLast s (s.raise c) :=
  ⟨[.timerStop], ⟨.fault, c.code.setWidth 16⟩, rfl, by simp [PortEvent.isRsp]⟩

/-- The clock half of SAMPLE reads, and writes when it triggers (spec/40 R87). -/
theorem silent_sampleClock (s : State) : Silent s s.sampleClock := by
  have hread : Silent s (s.afterRead s.cfg.clkChannel) := silent_of_event rfl rfl
  obtain ⟨-, hs⟩ | ⟨-, -, hs⟩ | ⟨-, -, hs⟩ := s.sampleClock_cases <;> rw [hs]
  · exact hread
  · exact hread
  · exact hread.trans (silent_of_event rfl rfl)

/-- The auxiliary half reads, if there is a channel (spec/40 R87). -/
theorem silent_sampleAux (s : State) : Silent s s.sampleAux := by
  unfold State.sampleAux
  split
  · exact silent_of_event rfl rfl
  · exact silent_of_trace_eq rfl

/-- A performed command acts on at most one port, then responds. -/
theorem respondsLast_of_performs {i : Instr} {s t : State} (hi : i.isCommand = true) (h : Performs i s t) :
    RespondsLast s t := by
  cases h with
  | sample => cases hi
  | configure | start | stop => exact respondsLast_of_event rfl rfl _
  | step => exact (silent_of_event rfl rfl).respondsLast _
  | setDivisor | setNextOutput | hasTicked | ack | readAux | deriveNote | forceBit | setFlipProb | setRange
  | setScale | setNote | getCodeInTable | getCodeClamped | getSemitone => exact respondsLast_of_trace_eq rfl _

theorem respondsLast_of_command {i : Instr} {s t : State} (hi : i.isCommand = true)
    (h : exec i s = .next t) : RespondsLast s t := by
  obtain ⟨-, -, rfl⟩ | ⟨rfl, -, -⟩ | ⟨-, c, rfl⟩ | ⟨-, hp⟩ := exec_cases h
  · exact respondsLast_of_trace_eq rfl _
  · cases hi
  · exact respondsLast_raise c s
  · exact respondsLast_of_performs hi hp

theorem silent_of_sample {s t : State} (h : exec .sample s = .next t) : Silent s t := by
  obtain ⟨-, -, hs⟩ | ⟨-, hs⟩ := exec_sample_cases s <;> cases hs.symm.trans h
  · exact (silent_sampleClock s).trans (silent_sampleAux _)
  · exact silent_of_trace_eq rfl

/-- Settles O23: a refused, failed or performed command responds last, and SAMPLE only reads and writes. -/
theorem everyCommandRespondsExactlyOnce : Obligations.EveryCommandRespondsExactlyOnce := by
  unfold Obligations.EveryCommandRespondsExactlyOnce
  intro i s t h
  refine ⟨fun hi => respondsLast_of_command hi h, fun hi => ?_⟩
  obtain rfl := eq_sample_of_not_command hi
  exact silent_of_sample h

end Sys2Proof.Proofs
end

section
/-!
PROOFS. Running a chain of commands: in an unfaulted state whose checks hold, an instruction answers what its
own rule leaves (the converse of `exec_cases`). So the host's sequences of spec/30 R72 and R74 can be followed
command by command.
-/
namespace Sys2Proof.Proofs

open Sys2Proof.Machine

/-- An instruction whose checks hold performs its own rule. -/
theorem exec_of_performs {i : Instr} {s t : State} (hf : s.fault = false) (h : Performs i s t) :
    exec i s = .next t := by
  cases h with
  | configure stopped hlow hhigh hrate =>
    rw [exec, execConfigure, State.command_of_ok hf]
    simp [stopped, hlow, hhigh, hrate, emit_done]
  | start hconf =>
    rw [exec, execStart, State.command_of_ok hf]
    simp [hconf, emit_done]
  | stop => rw [exec, execStop, State.command_of_ok hf, emit_done]
  | setDivisor hn => rw [exec, execSetDivisor, State.command_of_ok hf, if_neg hn, State.done_eq]
  | setNextOutput hcode =>
    rw [exec, execSetNextOutput, State.command_of_ok hf]
    simp [hcode, State.done_eq]
  | sample hrun => simp [exec, execSample, hrun, hf]
  | hasTicked => rw [exec, execHasTicked, State.command_of_ok hf, State.answer_eq]
  | ack => exact exec_ack_of_ok hf
  | readAux haux => rw [exec, execReadAux, State.command_of_ok hf, if_pos haux, State.answer_eq]
  | step => rw [exec, execStep, State.command_of_ok hf, State.done_eq]
  | deriveNote hdiv => rw [exec, execDeriveNote, State.command_of_ok hf, if_neg hdiv, State.answer_eq]
  | forceBit => rw [exec, execForceBit, State.command_of_ok hf, State.done_eq]
  | setFlipProb hp =>
    rw [exec, execSetFlipProb, State.command_of_ok hf, if_neg (Nat.not_le_of_lt hp), State.done_eq]
  | setRange hk hrom hd =>
    rw [exec, execSetRange, State.command_of_ok hf, if_neg (Nat.not_lt_of_le hk)]
    simp only [hrom, if_neg hd, State.done_eq]
  | setScale hsel =>
    rw [exec, execSetScale, State.command_of_ok hf, if_neg (Nat.not_lt_of_le hsel), State.done_eq]
  | setNote hres =>
    rw [exec, execSetNote, State.command_of_ok hf]
    simp [hres, State.done_eq]
  | getCodeInTable hidx =>
    rw [exec, execGetCode, State.command_of_ok hf, if_neg (Nat.not_lt_of_le hidx), State.answer_eq]
  | getCodeClamped hidx =>
    rw [exec, execGetCode, State.command_of_ok hf, if_pos hidx, State.respond_eq_logged]
  | getSemitone => rw [exec, execGetSemitone, State.command_of_ok hf, State.answer_eq]

/-- The first instruction of a sequence is performed, and the rest goes on from what it left. -/
theorem execAll_of_performs {i : Instr} {is : List Instr} {s u t : State} (h : Performs i s u)
    (hf : s.fault = false) (hrest : execAll is u = .next t) : execAll (i :: is) s = .next t :=
  execAll_cons.mpr ⟨u, exec_of_performs hf h, hrest⟩

/-- A sequence after another goes on from what the first left. -/
theorem execAll_append {is js : List Instr} {s u : State} (h : execAll is s = .next u) :
    execAll (is ++ js) s = execAll js u := by
  induction is generalizing s with
  | nil =>
    cases h
    rfl
  | cons i is ih =>
    obtain ⟨v, hexec, hrest⟩ := execAll_cons.mp h
    rw [List.cons_append, execAll, hexec]
    exact ih hrest

/-! ### The critical section of spec/30 R74 -/

/-- START of a block that has never been configured (spec/40 R82). -/
theorem exec_start_of_unconfigured {s : State} (hf : s.fault = false) (hconf : s.configured = false) :
    exec .start s = .next (s.raise .sequence) := by
  rw [exec, execStart, State.command_of_ok hf, hconf]
  rfl

/-- Up to its closing START the critical section completes in every unfaulted state. -/
theorem execAll_critical {s : State} (hf : s.fault = false) :
    ∃ tr, execAll (critical [.hasTicked, .ack]) s =
      execAll [.start] { s with running := false, tickFlag := false, trace := tr } :=
  ⟨_, execAll_append (is := [.stop, .hasTicked, .ack]) (execAll_of_performs .stop hf
    (execAll_of_performs .hasTicked hf (execAll_of_performs .ack hf rfl)))⟩

/-- Settles O42: the section completes up to START, which the configuration decides. -/
theorem criticalSectionNeedsAConfiguration : Obligations.CriticalSectionNeedsAConfiguration := by
  unfold Obligations.CriticalSectionNeedsAConfiguration
  intro s hf
  obtain ⟨tr, hrun⟩ := execAll_critical hf
  rw [hrun]
  refine ⟨fun hconf => ⟨_, execAll_of_performs (.start hconf) hf rfl, rfl⟩, fun hconf => ?_⟩
  exact ⟨_, execAll_cons.mpr ⟨_, exec_start_of_unconfigured hf hconf, rfl⟩, rfl⟩

/-! ### The SERVICE_TICK chain of spec/30 R72 -/

/-- The host binds the data of the response that has just come (spec/30 R71). -/
theorem lastData_logged (s : State) (st : Status) (d : Half) : (s.logged [.rsp ⟨st, d⟩]).lastData = d := by
  simp [State.lastData]

theorem lastData_okRsp (s : State) (d : Half) : (s.logged [okRsp d]).lastData = d := lastData_logged s .ok d

/-- The transform of a byte fits the response's data field (spec/41 R108). -/
theorem noteOf_le {b : Nat} (d : Nat) (hb : b ≤ 255) : noteOf b d ≤ 2296 := by
  have hdiv : (b * 2 ^ 3 + 256) * 2 ^ 5 / d ≤ (b * 2 ^ 3 + 256) * 2 ^ 5 := Nat.div_le_self _ _
  simp only [noteOf]
  omega

/-- The low byte that DERIVE_NOTE transforms (spec/41 R103). -/
theorem lowByte_toNat (reg : Half) : (reg.extractLsb' 0 8).toNat = reg.toNat % 256 := by
  simp [BitVec.extractLsb'_toNat]

/-- The register after one STEP (spec/41 R101). -/
def steppedReg (s : State) : Half := rotateWithFlip s.reg (s.nextDraw < s.flipNum.toNat)

/-- The note of the stepped register, which DERIVE_NOTE reports (spec/41 R103). -/
def steppedNote (s : State) : Nat := noteOf ((steppedReg s).toNat % 256) s.rangeDivisor.toNat

theorem steppedNote_le (s : State) : steppedNote s ≤ 2296 := noteOf_le _ (by omega)

theorem steppedNote_toNat (s : State) : (BitVec.ofNat 16 (steppedNote s)).toNat = steppedNote s :=
  Nat.mod_eq_of_lt (by have := steppedNote_le s; omega)

/-- The registers after `ACK; STEP; DERIVE_NOTE`, and a record of the ports (spec/30 R72). -/
def advanced (tr : List PortEvent) (s : State) : State :=
  { s with
    tickFlag := false, reg := steppedReg s, drawAnswers := s.drawAnswers.tail, draws := s.draws + 1,
    trace := tr }

/-- `ACK; STEP; DERIVE_NOTE` completes and reports the note of the stepped register. -/
theorem execAll_advance {s : State} (hf : s.fault = false) (hdiv : s.rangeDivisor ≠ 0) :
    ∃ tr, execAll [.ack, .step, .deriveNote] s =
      .next ((advanced tr s).logged [okRsp (BitVec.ofNat 16 (steppedNote s))]) := by
  rw [steppedNote, ← lowByte_toNat]
  exact ⟨_, execAll_of_performs .ack hf (execAll_of_performs .step hf
    (execAll_of_performs (.deriveNote hdiv) hf rfl))⟩

/-- The code GET_CODE reports: the entry at the index, or the last one past the table (spec/42 R123). -/
def reportedCode (s : State) : Code := s.cfg.romVlt (min s.vltIndex s.cfg.vltSteps)

theorem exec_getCode_of_ok {s : State} (hf : s.fault = false) :
    ∃ st, exec .getCode s = .next (s.logged [.rsp ⟨st, zextRes (reportedCode s)⟩]) := by
  obtain hidx | hidx := le_or_gt s.vltIndex s.cfg.vltSteps
  · rw [reportedCode, Nat.min_eq_left hidx]
    exact ⟨.ok, exec_of_performs hf (.getCodeInTable hidx)⟩
  · rw [reportedCode, Nat.min_eq_right hidx.le]
    exact ⟨.okClamped, exec_of_performs hf (.getCodeClamped hidx)⟩

/-- A code reported by GET_CODE is accepted and buffered as it is (spec/40 R85). -/
theorem exec_setNextOutput_zextRes {s : State} {c : Code} (hf : s.fault = false) :
    exec (.setNextOutput (zextRes c)) s = .next ({ s with bufferedOutput := c }.logged [okRsp 0]) := by
  have hfits : (zextRes c).toNat < 2 ^ RES := by rw [zextRes_toNat]; exact c.isLt
  have hlow : lowRes (zextRes c) = c :=
    BitVec.eq_of_toNat_eq ((lowRes_toNat hfits).trans (zextRes_toNat c))
  have hexec := exec_of_performs hf (.setNextOutput ((fitsRes_iff _).mpr hfits))
  rwa [hlow] at hexec

/-- The registers after `SET_NOTE; GET_CODE` of a note that resolves to octave `o` and semitone `m`, and a
record of the ports (spec/30 R72). -/
def quantized (o m : Nat) (tr : List PortEvent) (s : State) : State :=
  { s with octave := BitVec.ofNat 16 o, semitone := BitVec.ofNat 4 m, trace := tr }

/-- `SET_NOTE; GET_CODE` completes and reports the code of what the note resolved to. -/
theorem execAll_quantize {s : State} {note : Half} {o m : Nat} (hf : s.fault = false)
    (hres : s.resolveNote note.toNat = some (o, m)) :
    ∃ tr st, execAll [.setNote note, .getCode] s =
      .next ((quantized o m tr s).logged [.rsp ⟨st, zextRes (reportedCode (quantized o m tr s))⟩]) := by
  obtain ⟨st, hcode⟩ := exec_getCode_of_ok (s := quantized o m (s.trace ++ [okRsp 0]) s) hf
  exact ⟨_, st, execAll_of_performs (.setNote hres) hf (execAll_cons.mpr ⟨_, hcode, rfl⟩)⟩

/-- With the flag up, HAS_TICKED answers 1 and the host goes on with the chain (spec/30 R72). -/
theorem serviceTick_of_flag {s u v t : State} {note code : Half} (hf : s.fault = false)
    (hflag : s.tickFlag = true)
    (hadvance : execAll [.ack, .step, .deriveNote] (s.logged [okRsp 1]) = .next u)
    (hnote : u.lastData = note) (hquantize : execAll [.setNote note, .getCode] u = .next v)
    (hcode : v.lastData = code) (hbuffer : exec (.setNextOutput code) v = .next t) :
    serviceTick s = .next t := by
  have hticked : exec .hasTicked s = .next (s.logged [okRsp 1]) := by
    rw [exec_of_performs hf .hasTicked, hflag]
    rfl
  simp only [serviceTick, hticked, Answer.andThen, lastData_okRsp, if_true, hadvance, hnote, hquantize, hcode,
    hbuffer]

theorem serviceTick_of_noFlag {s : State} (hf : s.fault = false) (hflag : s.tickFlag = false) :
    serviceTick s = .next (s.logged [okRsp 0]) := by
  have hticked : exec .hasTicked s = .next (s.logged [okRsp 0]) := by
    rw [exec_of_performs hf .hasTicked, hflag]
    rfl
  simp [serviceTick, hticked, Answer.andThen, lastData_okRsp]

/-- Settles O60: the chain is advance, quantize, buffer; the invariants let DERIVE_NOTE and SET_NOTE
answer. -/
theorem serviceTickBuffersTheNextCode : Obligations.ServiceTickBuffersTheNextCode := by
  unfold Obligations.ServiceTickBuffersTheNextCode
  intro s hinv hf
  refine ⟨serviceTick_of_noFlag hf, fun hflag => ?_⟩
  have hdiv : s.rangeDivisor ≠ 0 := romDivtab_pos hinv.cfg_valid hinv.rangeDivisor_eq
  obtain ⟨o, m, hres, ho, hm⟩ := resolveNote_bounded hinv.cfg_valid hinv.scaleSel_le (steppedNote s)
  have hoctave : (BitVec.ofNat 16 o).toNat = o := Nat.mod_eq_of_lt (by have := steppedNote_le s; omega)
  have hsemitone : (BitVec.ofNat 4 m).toNat = m := Nat.mod_eq_of_lt (by omega)
  obtain ⟨tr, hadvance⟩ := execAll_advance (s := s.logged [okRsp 1]) hf hdiv
  obtain ⟨tr', st, hquantize⟩ := execAll_quantize
    (s := (advanced tr s).logged [okRsp (BitVec.ofNat 16 (steppedNote s))]) hf
    ((congrArg s.resolveNote (steppedNote_toNat s)).trans hres)
  refine ⟨_, serviceTick_of_flag hf hflag hadvance (lastData_okRsp _ _) hquantize (lastData_logged _ _ _)
    (exec_setNextOutput_zextRes hf), hf, rfl, rfl, rfl, ?_, rfl⟩
  show s.resolveNote (steppedNote s) = some ((BitVec.ofNat 16 o).toNat, (BitVec.ofNat 4 m).toNat)
  rw [hres, hoctave, hsemitone]

end Sys2Proof.Proofs
end

section
/-!
PROOFS. LOAD_REG of spec/30 R73: a STEP and the FORCE_BIT after it push one bit into the register whatever the
flip (spec/41 R101, R104), ticks between them touch nothing that is loaded, and sixteen pushes, high bit first,
are the value.
-/
namespace Sys2Proof.Proofs

open Sys2Proof.Machine

/-! ### Pushing bits -/

/-- The register with every bit one place up and `b` at bit 0. -/
def pushBit (reg : Half) (b : Bool) : Half := reg.extractLsb' 0 15 ++ BitVec.ofBool b

theorem getLsbD_pushBit (reg : Half) (b : Bool) {j : Nat} (hj : j < 16) :
    (pushBit reg b).getLsbD j = if j = 0 then b else reg.getLsbD (j - 1) := by
  rw [pushBit, BitVec.getLsbD_append]
  cases j with
  | zero => simp
  | succ j => simp [show j < 15 by omega]

/-- What FORCE_BIT leaves of STEP's result: the flip is overwritten (spec/41 R104). -/
theorem forceBit_rotateWithFlip (reg : Half) (flip b : Bool) :
    (rotateWithFlip reg flip).extractLsb' 1 15 ++ BitVec.ofBool b = pushBit reg b :=
  congrArg (· ++ BitVec.ofBool b) BitVec.extractLsb'_append_eq_left

/-- The low `n` bits of `v`, high bit first (spec/30 R73). -/
def highFirst (v : Half) (n : Nat) : List Bool := (List.range n).reverse.map v.getLsbD

theorem highFirst_succ (v : Half) (n : Nat) : highFirst v (n + 1) = v.getLsbD n :: highFirst v n := by
  simp [highFirst, List.range_succ]

/-- After `n` pushes the low `n` bits are those of `v`, and the bits before them stand `n` places up. -/
theorem getLsbD_foldl_pushBit (v reg : Half) (n : Nat) {j : Nat} (hj : j < 16) :
    ((highFirst v n).foldl pushBit reg).getLsbD j = if j < n then v.getLsbD j else reg.getLsbD (j - n) := by
  induction n generalizing reg with
  | zero => rfl
  | succ n ih =>
    rw [highFirst_succ, List.foldl_cons, ih, getLsbD_pushBit reg _ (by omega)]
    obtain hlt | rfl | hgt := Nat.lt_trichotomy j n
    · simp [hlt, Nat.lt_succ_of_lt hlt]
    · simp
    · simp [show ¬ j < n by omega, show ¬ j < n + 1 by omega, show j - n ≠ 0 by omega, Nat.sub_sub]

theorem foldl_pushBit_highFirst (v reg : Half) : (highFirst v 16).foldl pushBit reg = v := by
  refine BitVec.eq_of_getLsbD_eq fun j hj => ?_
  rw [getLsbD_foldl_pushBit v reg 16 hj, if_pos hj]

/-! ### What loading leaves alone -/

/-- From `s` to `t` no fault came, and of the sequencer's and the quantizer's registers only `reg` and
`rangeDivisor` may differ. -/
structure KeepsSettings (s t : State) : Prop where
  fault : t.fault = s.fault
  flipNum : t.flipNum = s.flipNum
  rangeIndex : t.rangeIndex = s.rangeIndex
  quantizer : t.quantizer = s.quantizer

theorem KeepsSettings.refl (s : State) : KeepsSettings s s := ⟨rfl, rfl, rfl, rfl⟩

theorem KeepsSettings.trans {s t u : State} (hst : KeepsSettings s t) (htu : KeepsSettings t u) :
    KeepsSettings s u where
  fault := htu.fault.trans hst.fault
  flipNum := htu.flipNum.trans hst.flipNum
  rangeIndex := htu.rangeIndex.trans hst.rangeIndex
  quantizer := htu.quantizer.trans hst.quantizer

/-- A tick, performed or dropped, leaves the sequencer and the quantizer alone (spec/70 R185). -/
theorem exec_sample_keeps (s : State) :
    ∃ t, exec .sample s = .next t ∧ KeepsSettings s t ∧ t.reg = s.reg := by
  obtain ⟨-, -, hexec⟩ | ⟨-, hexec⟩ := exec_sample_cases s
  · refine ⟨_, hexec, ?_⟩
    obtain ⟨-, hs⟩ | ⟨-, -, hs⟩ | ⟨-, hs⟩ := performedSample_cases s <;> rw [hs] <;>
      exact ⟨⟨rfl, rfl, rfl, rfl⟩, rfl⟩
  · exact ⟨s, hexec, .refl s, rfl⟩

theorem execAll_ticks_keep {is : List Instr} (his : ∀ i ∈ is, i = .sample) (s : State) :
    ∃ t, execAll is s = .next t ∧ KeepsSettings s t ∧ t.reg = s.reg := by
  induction is generalizing s with
  | nil => exact ⟨s, rfl, .refl s, rfl⟩
  | cons i is ih =>
    obtain ⟨rfl, hticks⟩ := List.forall_mem_cons.mp his
    obtain ⟨u, hexec, hkeep, hreg⟩ := exec_sample_keeps s
    obtain ⟨t, hrest, hkeep', hreg'⟩ := ih hticks u
    exact ⟨t, execAll_cons.mpr ⟨u, hexec, hrest⟩, hkeep.trans hkeep', hreg'.trans hreg⟩

/-! ### Commands with ticks between them -/

/-- The commands of a sequence, its ticks left out. -/
abbrev commandsOf (is : List Instr) : List Instr := is.filter (· ≠ .sample)

/-- A sequence whose commands begin with `c` serves some ticks, then `c`, then the rest. -/
theorem execAll_of_commandsOf_cons {is cs : List Instr} {c : Instr} (h : commandsOf is = c :: cs) (s : State) :
    ∃ u rest, KeepsSettings s u ∧ u.reg = s.reg ∧ commandsOf rest = cs ∧
      execAll is s = execAll (c :: rest) u := by
  obtain ⟨ticks, rest, rfl, hticks, -, hrest⟩ := List.filter_eq_cons_iff.mp h
  obtain ⟨u, hu, hkeep, hreg⟩ := execAll_ticks_keep (by simpa using hticks) s
  exact ⟨u, rest, hkeep, hreg, hrest, execAll_append hu⟩

theorem execAll_of_commandsOf_nil {is : List Instr} (h : commandsOf is = []) (s : State) :
    ∃ t, execAll is s = .next t ∧ KeepsSettings s t ∧ t.reg = s.reg :=
  execAll_ticks_keep (by simpa using h) s

/-- The STEP and FORCE_BIT pairs that push the bits `bs` (spec/30 R73). -/
def pushes (bs : List Bool) : List Instr := bs.flatMap fun b => [.step, .forceBit b]

theorem loadReg_eq_pushes (v : Half) : loadReg v = pushes (highFirst v 16) := by
  rw [loadReg, pushes, highFirst, List.flatMap_map]

theorem exec_step_keeps {s : State} (hf : s.fault = false) :
    ∃ t flip, exec .step s = .next t ∧ KeepsSettings s t ∧ t.reg = rotateWithFlip s.reg flip :=
  ⟨_, _, exec_of_performs hf .step, ⟨rfl, rfl, rfl, rfl⟩, rfl⟩

theorem exec_forceBit_keeps (b : Bool) {s : State} (hf : s.fault = false) :
    ∃ t, exec (.forceBit b) s = .next t ∧ KeepsSettings s t ∧
      t.reg = s.reg.extractLsb' 1 15 ++ BitVec.ofBool b :=
  ⟨_, exec_of_performs hf .forceBit, ⟨rfl, rfl, rfl, rfl⟩, rfl⟩

/-- A STEP and the FORCE_BIT after it push one bit, whatever is drawn and sampled between them. -/
theorem execAll_push {is cs : List Instr} {b : Bool} {s : State} (hf : s.fault = false)
    (h : commandsOf is = .step :: .forceBit b :: cs) :
    ∃ t rest, KeepsSettings s t ∧ t.reg = pushBit s.reg b ∧ commandsOf rest = cs ∧
      execAll is s = execAll rest t := by
  obtain ⟨s₁, is₁, hticks, hreg₁, his₁, hexec₁⟩ := execAll_of_commandsOf_cons h s
  obtain ⟨s₂, flip, hstep, hkeep₂, hreg₂⟩ := exec_step_keeps (hticks.fault.trans hf)
  have hs₂ : KeepsSettings s s₂ := hticks.trans hkeep₂
  obtain ⟨s₃, rest, hticks', hreg₃, hrest, hexec₃⟩ := execAll_of_commandsOf_cons his₁ s₂
  have hs₃ : KeepsSettings s s₃ := hs₂.trans hticks'
  obtain ⟨t, hforce, hkeep, hreg⟩ := exec_forceBit_keeps b (hs₃.fault.trans hf)
  refine ⟨t, rest, hs₃.trans hkeep, ?_, hrest, ?_⟩
  · rw [hreg, hreg₃, hreg₂, hreg₁, forceBit_rotateWithFlip]
  · rw [hexec₁, execAll, hstep, Answer.andThen, hexec₃, execAll, hforce, Answer.andThen]

/-- Any pushes, with ticks anywhere, complete in an unfaulted state and push their bits. -/
theorem execAll_pushes {bs : List Bool} {is : List Instr} {s : State} (hf : s.fault = false)
    (h : commandsOf is = pushes bs) :
    ∃ t, execAll is s = .next t ∧ KeepsSettings s t ∧ t.reg = bs.foldl pushBit s.reg := by
  induction bs generalizing is s with
  | nil => exact execAll_of_commandsOf_nil h s
  | cons b bs ih =>
    obtain ⟨u, rest, hkeep, hreg, hrest, hexec⟩ := execAll_push hf h
    obtain ⟨t, hrun, hkeep', hreg'⟩ := ih (hkeep.fault.trans hf) hrest
    exact ⟨t, hexec.trans hrun, hkeep.trans hkeep', by rw [hreg', hreg, List.foldl_cons]⟩

/-- Settles O51: LOAD_REG's expansion pushes the sixteen bits of `v`. -/
theorem loadRegLoadsItsValue : Obligations.LoadRegLoadsItsValue := by
  unfold Obligations.LoadRegLoadsItsValue
  intro v is s hf his
  obtain ⟨t, hrun, hkeep, hreg⟩ := execAll_pushes hf (his.trans (loadReg_eq_pushes v))
  rw [foldl_pushBit_highFirst] at hreg
  exact ⟨t, hrun, hreg, hkeep.flipNum, hkeep.rangeIndex, hkeep.quantizer⟩

end Sys2Proof.Proofs
end

section
/-!
PROOFS. The commands of the Clock/Timing Engine (spec/40 R81 to R85, R88 to R90): which error each failing check
raises; with the checks holding, `exec_of_performs` gives the command's effect.
-/
namespace Sys2Proof.Proofs

open Sys2Proof.Machine

/-! ### Checks that fail -/

section Unfaulted

variable {s : State} (hf : s.fault = false)
include hf

/-- CONFIGURE is for a stopped block (spec/40 R81). -/
theorem exec_configure_of_running {rate low high : Half} {pol : Polarity} (hrun : s.running = true) :
    exec (.configure rate pol low high) s = .next (s.withError .sequence) := by
  rw [exec, execConfigure, State.command_of_ok hf, if_pos hrun, State.raise_eq_withError]

/-- The thresholds are checked before the rate (spec/60 R148). -/
theorem exec_configure_of_wideThreshold {rate low high : Half} {pol : Polarity} (hstop : s.running = false)
    (hwide : fitsRes high = false ∨ fitsRes low = false) :
    exec (.configure rate pol low high) s = .next (s.withError .valueRange) := by
  have hcheck : (!fitsRes high || !fitsRes low) = true := by simpa using hwide
  rw [exec, execConfigure, State.command_of_ok hf, hstop, if_neg nofun, if_pos hcheck,
    State.raise_eq_withError]

/-- The rate is the last check (spec/60 R148). -/
theorem exec_configure_of_badRate {rate low high : Half} {pol : Polarity} (hstop : s.running = false)
    (hhigh : fitsRes high = true) (hlow : fitsRes low = true) (hrate : s.cfg.rateOK rate = false) :
    exec (.configure rate pol low high) s = .next (s.withError .rate) := by
  rw [exec, execConfigure, State.command_of_ok hf, hstop, hhigh, hlow, hrate, if_neg nofun, if_neg nofun,
    if_pos Bool.not_false, State.raise_eq_withError]

theorem exec_setDivisor_zero : exec (.setDivisor 0) s = .next (s.withError .divisorZero) := by
  rw [exec, execSetDivisor, State.command_of_ok hf, if_pos rfl, State.raise_eq_withError]

theorem exec_setNextOutput_of_wide {code : Half} (hwide : fitsRes code = false) :
    exec (.setNextOutput code) s = .next (s.withError .valueRange) := by
  rw [exec, execSetNextOutput, State.command_of_ok hf, hwide, if_pos Bool.not_false, State.raise_eq_withError]

end Unfaulted

/-- A field that does not fit in a sample or code, in numbers (spec/40 R81, R85). -/
theorem fitsRes_eq_false {v : Half} (h : 2 ^ RES ≤ v.toNat) : fitsRes v = false :=
  Bool.eq_false_iff.mpr fun hfits => absurd ((fitsRes_iff v).mp hfits) (Nat.not_lt_of_le h)

/-! ### The statements -/

/-- Settles O28, by the three checks in their order, then the effect when all hold. -/
theorem configureChecksThenStores : Obligations.ConfigureChecksThenStores := by
  unfold Obligations.ConfigureChecksThenStores
  intro rate pol low high s hf
  refine ⟨fun hrun => exec_configure_of_running hf hrun, fun hstop hwide => ?_,
    fun hstop hhigh hlow hrate => ?_, fun hstop hhigh hlow hrate => ?_⟩
  · exact exec_configure_of_wideThreshold hf hstop (hwide.imp fitsRes_eq_false fitsRes_eq_false)
  · exact exec_configure_of_badRate hf hstop ((fitsRes_iff _).mpr hhigh) ((fitsRes_iff _).mpr hlow) hrate
  · exact ⟨lowRes low, lowRes high, lowRes_toNat hlow, lowRes_toNat hhigh,
      exec_of_performs hf (.configure hstop ((fitsRes_iff _).mpr hlow) ((fitsRes_iff _).mpr hhigh) hrate)⟩

/-- Settles O30: the configuration decides between the exception and START's effect. -/
theorem startNeedsAConfiguration : Obligations.StartNeedsAConfiguration := by
  unfold Obligations.StartNeedsAConfiguration
  refine ⟨by decide, fun s hf => ⟨fun hconf => ?_, fun hconf => exec_of_performs hf (.start hconf)⟩⟩
  rw [exec_start_of_unconfigured hf hconf, State.raise_eq_withError]

/-- Settles O31: STOP has no check. -/
theorem stopKeepsEverythingElse : Obligations.StopKeepsEverythingElse := by
  unfold Obligations.StopKeepsEverythingElse
  exact ⟨by decide, fun _ hf => exec_of_performs hf .stop⟩

/-- Settles O32: only 0 fails the check. -/
theorem setDivisorClearsTheCount : Obligations.SetDivisorClearsTheCount := by
  unfold Obligations.SetDivisorClearsTheCount
  refine fun n s => ⟨rfl, fun hf => ⟨?_, fun hn => exec_of_performs hf (.setDivisor hn)⟩⟩
  rintro rfl
  exact exec_setDivisor_zero hf

/-- Settles O33: a code that fits keeps its value in the `RES`-bit register. -/
theorem setNextOutputBuffersTheCode : Obligations.SetNextOutputBuffersTheCode := by
  unfold Obligations.SetNextOutputBuffersTheCode
  refine fun code s => ⟨rfl, fun hf => ⟨fun hwide => ?_, fun hfits => ?_⟩⟩
  · exact exec_setNextOutput_of_wide hf (fitsRes_eq_false hwide)
  · exact ⟨lowRes code, lowRes_toNat hfits, exec_of_performs hf (.setNextOutput ((fitsRes_iff _).mpr hfits))⟩

/-- The flag in a response's data field (spec/40 R88). -/
theorem zextFlag_eq_ite (b : Bool) : zextFlag b = if b then 1 else 0 := by cases b <;> rfl

theorem tickFlagPin_eq_one_iff (s : State) : s.tickFlagPin = 1 ↔ s.tickFlag = true := by
  cases h : s.tickFlag <;> simp [State.tickFlagPin, h]

/-- Settles O38: HAS_TICKED has no check and only responds; the pin is the flag as one bit. -/
theorem hasTickedReportsTheFlag : Obligations.HasTickedReportsTheFlag := by
  unfold Obligations.HasTickedReportsTheFlag
  refine ⟨by decide, fun s => ⟨fun hf => ?_, tickFlagPin_eq_one_iff s⟩⟩
  rw [← zextFlag_eq_ite]
  exact exec_of_performs hf .hasTicked

/-- Settles O39: ACK has no check. -/
theorem ackClearsTheFlagOnly : Obligations.AckClearsTheFlagOnly := by
  unfold Obligations.AckClearsTheFlagOnly
  exact ⟨by decide, fun _ hf => exec_ack_of_ok hf⟩

/-- Settles O40: `HAS_AUX` decides between the reading and the exception. -/
theorem readAuxReportsTheAuxiliarySample : Obligations.ReadAuxReportsTheAuxiliarySample := by
  unfold Obligations.ReadAuxReportsTheAuxiliarySample
  refine fun s hf => ⟨fun haux => ?_, fun haux => exec_readAux_of_noAux hf haux⟩
  exact ⟨zextRes s.auxSample, zextRes_toNat _, exec_of_performs hf (.readAux haux)⟩

end Sys2Proof.Proofs
end

section
/-!
PROOFS. SAMPLE: the edge test (spec/40 R86), what a performed SAMPLE leaves in each register (R87), and the
division of qualifying edges along any number of ticks (R91).
-/
namespace Sys2Proof.Proofs

open Sys2Proof.Machine

/-! ### The edge test -/

theorem edge_hiToLo {s : State} (hpol : s.cfgPol = .hiToLo) (p v : Sample) :
    s.edge p v = true ↔ s.hystHigh.toNat < p.toNat ∧ v.toNat < s.hystLow.toNat := by
  simp [State.edge, hpol, BitVec.lt_def]

theorem edge_loToHi {s : State} (hpol : s.cfgPol = .loToHi) (p v : Sample) :
    s.edge p v = true ↔ p.toNat < s.hystLow.toNat ∧ s.hystHigh.toNat < v.toNat := by
  simp [State.edge, hpol, BitVec.lt_def]

/-- An edge leaves one side of the band strictly and arrives strictly on the other (spec/40 R86). -/
theorem edge_sides {s : State} {p v : Sample} (h : s.edge p v = true) :
    (s.cfgPol = .hiToLo ∧ s.hystHigh.toNat < p.toNat ∧ v.toNat < s.hystLow.toNat) ∨
    (s.cfgPol = .loToHi ∧ p.toNat < s.hystLow.toNat ∧ s.hystHigh.toNat < v.toNat) := by
  cases hpol : s.cfgPol with
  | hiToLo => exact .inl ⟨rfl, (edge_hiToLo hpol p v).mp h⟩
  | loToHi => exact .inr ⟨rfl, (edge_loToHi hpol p v).mp h⟩

/-- No edge arrives inside the closed band (spec/40 R86 b). -/
theorem edge_into_band {s : State} {v : Sample} (hlow : s.hystLow.toNat ≤ v.toNat)
    (hhigh : v.toNat ≤ s.hystHigh.toNat) (p : Sample) : s.edge p v = false := by
  refine Bool.eq_false_iff.mpr fun h => ?_
  obtain ⟨-, -, harrive⟩ | ⟨-, -, harrive⟩ := edge_sides h <;> omega

/-- No edge leaves from inside the closed band (spec/40 R86 b). -/
theorem edge_out_of_band {s : State} {v : Sample} (hlow : s.hystLow.toNat ≤ v.toNat)
    (hhigh : v.toNat ≤ s.hystHigh.toNat) (u : Sample) : s.edge v u = false := by
  refine Bool.eq_false_iff.mpr fun h => ?_
  obtain ⟨-, hleave, -⟩ | ⟨-, hleave, -⟩ := edge_sides h <;> omega

/-- With an upright band the sample of an edge is on the wrong side for the next one (spec/40 R86 c). -/
theorem edge_not_twice {s : State} {p v : Sample} (hband : s.hystLow.toNat ≤ s.hystHigh.toNat)
    (h : s.edge p v = true) (u : Sample) : s.edge v u = false := by
  refine Bool.eq_false_iff.mpr fun hnext => ?_
  obtain ⟨hpol, -, harrive⟩ | ⟨hpol, -, harrive⟩ := edge_sides h
  · have := ((edge_hiToLo hpol v u).mp hnext).left
    omega
  · have := ((edge_loToHi hpol v u).mp hnext).left
    omega

/-- Settles O34: the test by polarity, and where its two samples lie. -/
theorem edgeTestIsStrictAndTwoSided : Obligations.EdgeTestIsStrictAndTwoSided := by
  unfold Obligations.EdgeTestIsStrictAndTwoSided
  exact fun s p v => ⟨fun hpol => edge_hiToLo hpol p v, fun hpol => edge_loToHi hpol p v,
    fun hlow hhigh => ⟨edge_into_band hlow hhigh p, edge_out_of_band hlow hhigh⟩, edge_not_twice⟩

/-! ### What a performed SAMPLE leaves -/

/-- A trigger needs an edge (spec/40 R87). -/
theorem edgeNext_of_trigger {s : State} (h : s.triggerNext = true) : s.edgeNext = true :=
  (Bool.and_eq_true_iff.mp h).left

theorem triggerNext_of_noEdge {s : State} (h : s.edgeNext = false) : s.triggerNext = false := by
  simp [State.triggerNext, h]

/-- An edge triggers exactly when it is the `divisor`-th (spec/40 R87). -/
theorem triggerNext_of_edge {s : State} (h : s.edgeNext = true) :
    s.triggerNext = true ↔ s.edgeCounter.toNat + 1 = s.divisor.toNat := by
  simp [State.triggerNext, h]

theorem performedSample_of_noEdge {s : State} (h : s.edgeNext = false) :
    s.sampleClock.sampleAux = sampleReads s := by
  simpa [h, triggerNext_of_noEdge h] using performedSample_cases s

theorem performedSample_of_count {s : State} (h : s.edgeNext = true) (htrig : s.triggerNext = false) :
    s.sampleClock.sampleAux = { sampleReads s with edgeCounter := s.edgeCounter + 1 } := by
  simpa [h, htrig] using performedSample_cases s

theorem performedSample_of_trigger {s : State} (h : s.triggerNext = true) :
    s.sampleClock.sampleAux = { sampleReads s with
      edgeCounter := 0, tickFlag := true, dacLast := some s.bufferedOutput,
      outHistory := s.outHistory ++ [s.bufferedOutput] } := by
  simpa [h, edgeNext_of_trigger h] using performedSample_cases s

/-- Without a trigger nothing is dispatched, edge or not (spec/40 R87). -/
theorem performedSample_noDispatch {s : State} (h : s.triggerNext = false) :
    let t := s.sampleClock.sampleAux
    t.tickFlag = s.tickFlag ∧ t.dacLast = s.dacLast ∧ t.outHistory = s.outHistory := by
  cases hedge : s.edgeNext with
  | false => rw [performedSample_of_noEdge hedge]; exact ⟨rfl, rfl, rfl⟩
  | true => rw [performedSample_of_count hedge h]; exact ⟨rfl, rfl, rfl⟩

/-- A performed SAMPLE writes its own registers and what belongs to the exchange with the Device I/O, nothing
else (spec/40 R87). -/
theorem performedSample_frame (s : State) :
    let t := s.sampleClock.sampleAux
    t = { s with
      lastSample := s.nextSample, edgeCounter := t.edgeCounter, tickFlag := t.tickFlag,
      dacLast := t.dacLast, outHistory := t.outHistory, auxSample := t.auxSample,
      sampleAnswers := t.sampleAnswers, reads := t.reads, trace := t.trace } := by
  obtain ⟨-, hs⟩ | ⟨-, -, hs⟩ | ⟨-, hs⟩ := performedSample_cases s <;> rw [hs] <;> rfl

/-! ### Reads and the record of the ports -/

/-- The clock half makes one read, and leaves what the auxiliary half starts from. -/
theorem sampleClock_read (s : State) :
    let c := s.sampleClock
    c.reads = s.reads + 1 ∧ c.nextSample = (s.afterRead s.cfg.clkChannel).nextSample ∧
      c.auxSample = s.auxSample ∧ c.cfg = s.cfg := by
  obtain ⟨-, hs⟩ | ⟨-, -, hs⟩ | ⟨-, -, hs⟩ := s.sampleClock_cases <;> rw [hs] <;> exact ⟨rfl, rfl, rfl, rfl⟩

/-- The clock half reads, then dispatches when it triggers (spec/40 R87). -/
theorem sampleClock_trace (s : State) :
    s.sampleClock.trace = s.trace ++ [.ioRead s.cfg.clkChannel s.nextSample] ++
      (if s.triggerNext then [.ioWrite s.bufferedOutput] else []) := by
  obtain ⟨hedge, hs⟩ | ⟨-, htrig, hs⟩ | ⟨-, htrig, hs⟩ := s.sampleClock_cases
  · simp [hs, triggerNext_of_noEdge hedge]
  · simp [hs, htrig]
  · simp [hs, htrig]

theorem sampleAux_of_channel {s : State} (h : s.cfg.hasAux = true) :
    s.sampleAux = { s.afterRead s.cfg.auxChannel with auxSample := s.nextSample } := if_pos h

theorem sampleAux_of_noChannel {s : State} (h : s.cfg.hasAux = false) : s.sampleAux = s := by
  simp [State.sampleAux, h]

/-- With the channel the auxiliary sample is the second read (spec/40 R87 e). -/
theorem performedSample_of_channel {s : State} (h : s.cfg.hasAux = true) :
    let t := s.sampleClock.sampleAux
    t.auxSample = (s.afterRead s.cfg.clkChannel).nextSample ∧ t.reads = s.reads + 2 := by
  obtain ⟨hreads, hnext, -, hcfg⟩ := sampleClock_read s
  simp [sampleAux_of_channel (hcfg ▸ h), hreads, hnext]

theorem performedSample_of_noChannel {s : State} (h : s.cfg.hasAux = false) :
    let t := s.sampleClock.sampleAux
    t.auxSample = s.auxSample ∧ t.reads = s.reads + 1 := by
  obtain ⟨hreads, -, haux, hcfg⟩ := sampleClock_read s
  simp [sampleAux_of_noChannel (hcfg ▸ h), hreads, haux]

/-- The clock read, the dispatch if any, then the auxiliary read if any (spec/92 D25). -/
theorem performedSample_trace (s : State) :
    let t := s.sampleClock.sampleAux
    t.trace = s.trace ++ [.ioRead s.cfg.clkChannel s.nextSample] ++
      (if s.triggerNext then [.ioWrite s.bufferedOutput] else []) ++
      (if s.cfg.hasAux then [.ioRead s.cfg.auxChannel t.auxSample] else []) := by
  obtain ⟨-, -, -, hcfg⟩ := sampleClock_read s
  rw [← sampleClock_trace]
  cases h : s.cfg.hasAux with
  | true => simp [sampleAux_of_channel (hcfg ▸ h), hcfg]
  | false => simp [sampleAux_of_noChannel (hcfg ▸ h)]

/-- Settles O35, by what the edge test and the division say, and by whether there is an auxiliary channel. -/
theorem sampleReadsCountsAndDispatches : Obligations.SampleReadsCountsAndDispatches := by
  unfold Obligations.SampleReadsCountsAndDispatches
  intro s hrun hf
  refine ⟨s.sampleClock.sampleAux, exec_of_performs hf (.sample hrun), performedSample_frame s, fun hedge => ?_,
    fun hedge htrig => ?_, fun htrig => ?_, performedSample_noDispatch, performedSample_of_channel,
    performedSample_of_noChannel, performedSample_trace s⟩
  · rw [performedSample_of_noEdge hedge]
    rfl
  · rw [performedSample_of_count hedge htrig]
  · rw [performedSample_of_trigger htrig]
    exact ⟨rfl, rfl, rfl, rfl⟩

/-! ### The division of edges -/

/-- What a run of ticks from `s` to `t` with `edges` qualifying edges leaves, when these fall short of the next
trigger and when they just reach it (spec/40 R91). -/
structure DividedEdges (edges : Nat) (s t : State) : Prop where
  short : s.edgeCounter.toNat + edges < s.divisor.toNat →
    t.tickFlag = s.tickFlag ∧ t.edgeCounter.toNat = s.edgeCounter.toNat + edges ∧ t.outHistory = s.outHistory
  full : s.edgeCounter.toNat + edges = s.divisor.toNat →
    t.tickFlag = true ∧ t.edgeCounter = 0 ∧ t.outHistory = s.outHistory ++ [s.bufferedOutput]

theorem DividedEdges.refl {s : State} (hcount : s.edgeCounter.toNat < s.divisor.toNat) :
    DividedEdges 0 s s where
  short _ := ⟨rfl, rfl, rfl⟩
  full h := absurd h hcount.ne

/-- Below the divisor the count does not wrap (spec/40 R87 a). -/
theorem edgeCounter_succ_toNat {s : State} (hcount : s.edgeCounter.toNat < s.divisor.toNat) :
    (s.edgeCounter + 1).toNat = s.edgeCounter.toNat + 1 := by
  have := s.divisor.isLt
  bv_omega

theorem performedSample_active (s : State) :
    s.sampleClock.sampleAux.running = s.running ∧ s.sampleClock.sampleAux.fault = s.fault := by
  obtain ⟨-, hs⟩ | ⟨-, -, hs⟩ | ⟨-, hs⟩ := performedSample_cases s <;> rw [hs] <;> exact ⟨rfl, rfl⟩

/-- A tick keeps the count below the divisor: it triggers at the divisor (spec/10 R34). -/
theorem performedSample_count_lt {s : State} (hcount : s.edgeCounter.toNat < s.divisor.toNat) :
    s.sampleClock.sampleAux.edgeCounter.toNat < s.sampleClock.sampleAux.divisor.toNat := by
  obtain ⟨-, hs⟩ | ⟨hedge, htrig, hs⟩ | ⟨-, hs⟩ := performedSample_cases s <;> rw [hs]
  · exact hcount
  · have hne : s.edgeCounter.toNat + 1 ≠ s.divisor.toNat :=
      mt (triggerNext_of_edge hedge).mpr (Bool.eq_false_iff.mp htrig)
    show (s.edgeCounter + 1).toNat < s.divisor.toNat
    rw [edgeCounter_succ_toNat hcount]
    omega
  · exact Nat.zero_lt_of_lt hcount

/-- A tick in front of a run of ticks adds its own edge. When that edge triggers, the count has reached the
divisor, so the run behind it may hold no further edge. -/
theorem DividedEdges.after_tick {s t : State} {edges : Nat} (hcount : s.edgeCounter.toNat < s.divisor.toNat)
    (h : DividedEdges edges s.sampleClock.sampleAux t) :
    DividedEdges ((if s.edgeNext then 1 else 0) + edges) s t := by
  obtain ⟨hedge, hs⟩ | ⟨hedge, -, hs⟩ | ⟨htrig, hs⟩ := performedSample_cases s <;> rw [hs] at h
  · rw [hedge, if_neg nofun, Nat.zero_add]
    exact ⟨h.short, h.full⟩
  · obtain ⟨short, full⟩ := h
    simp only [edgeCounter_succ_toNat hcount, Nat.add_assoc] at short full
    rw [if_pos hedge]
    exact ⟨short, full⟩
  · have hedge := edgeNext_of_trigger htrig
    have hlast := (triggerNext_of_edge hedge).mp htrig
    rw [if_pos hedge]
    refine ⟨fun hshort => absurd hlast (by omega), fun hfull => ?_⟩
    obtain rfl : edges = 0 := by omega
    obtain ⟨hflag, hzero, hhist⟩ := h.short (Nat.zero_lt_of_lt hcount)
    exact ⟨hflag, BitVec.eq_of_toNat_eq hzero, hhist⟩

/-- Any number of ticks in a row divides its edges, from any count below the divisor. -/
theorem execAll_ticks_divide (n : Nat) {s : State} (hrun : s.running = true) (hf : s.fault = false)
    (hcount : s.edgeCounter.toNat < s.divisor.toNat) :
    ∃ t, execAll (List.replicate n .sample) s = .next t ∧ DividedEdges (s.edgesIn n) s t := by
  induction n generalizing s with
  | zero => exact ⟨s, rfl, .refl hcount⟩
  | succ n ih =>
    obtain ⟨hrun', hf'⟩ := performedSample_active s
    obtain ⟨t, hrest, hdivided⟩ := ih (hrun'.trans hrun) (hf'.trans hf) (performedSample_count_lt hcount)
    exact ⟨t, execAll_of_performs (.sample hrun) hf hrest, hdivided.after_tick hcount⟩

/-- Settles O37: `execAll_ticks_divide` from count 0. -/
theorem divisorEdgesMakeOneTrigger : Obligations.DivisorEdgesMakeOneTrigger := by
  unfold Obligations.DivisorEdgesMakeOneTrigger
  intro s n hrun hf hzero hflag hpos
  have hcount : s.edgeCounter.toNat = 0 := congrArg BitVec.toNat hzero
  obtain ⟨t, hticks, short, full⟩ := execAll_ticks_divide n hrun hf (by omega)
  rw [hcount, Nat.zero_add] at short full
  exact ⟨t, hticks, hflag ▸ short, full⟩

end Sys2Proof.Proofs
end

section
/-!
PROOFS. The three units and their registers (spec/41 R100, spec/42 R120, spec/70 R185, R188): an instruction
writes in its own unit, and only the exception reaches across, into `running`.
-/
namespace Sys2Proof.Proofs

open Sys2Proof.Machine

/-- SAMPLE neither reads nor writes a register of the sequencer or the quantizer (spec/41 R100). -/
theorem performedSample_music (s : State) :
    s.sampleClock.sampleAux.sequencer = s.sequencer ∧ s.sampleClock.sampleAux.quantizer = s.quantizer := by
  obtain ⟨-, hs⟩ | ⟨-, -, hs⟩ | ⟨-, hs⟩ := performedSample_cases s <;> rw [hs] <;> exact ⟨rfl, rfl⟩

/-- A performed instruction writes in its own unit; the cases stand by unit. -/
theorem performs_frame {i : Instr} {s t : State} (h : Performs i s t) :
    (partOf i ≠ .sequencer → t.sequencer = s.sequencer) ∧
    (partOf i ≠ .quantizer → t.quantizer = s.quantizer) ∧
    (partOf i ≠ .clock →
      t.engine = s.engine ∧ t.configuration = s.configuration ∧ t.running = s.running) := by
  cases h with
  | sample =>
    obtain ⟨hseq, hquant⟩ := performedSample_music s
    exact ⟨fun _ => hseq, fun _ => hquant, fun hi => absurd rfl hi⟩
  | configure | start | stop | setDivisor | setNextOutput | hasTicked | ack | readAux =>
    exact ⟨fun _ => rfl, fun _ => rfl, fun hi => absurd rfl hi⟩
  | step | deriveNote | forceBit | setFlipProb | setRange =>
    exact ⟨fun hi => absurd rfl hi, fun _ => rfl, fun _ => ⟨rfl, rfl, rfl⟩⟩
  | setScale | setNote | getCodeInTable | getCodeClamped | getSemitone =>
    exact ⟨fun _ => rfl, fun hi => absurd rfl hi, fun _ => ⟨rfl, rfl, rfl⟩⟩

/-- Settles O21: a refused or dropped instruction writes no register, a failed one only what the exception
writes, and a performed one has its unit's frame. -/
theorem unitsLeaveEachOtherAlone : Obligations.UnitsLeaveEachOtherAlone := by
  unfold Obligations.UnitsLeaveEachOtherAlone
  intro i s t h
  obtain ⟨-, -, rfl⟩ | ⟨-, -, rfl⟩ | ⟨-, c, rfl⟩ | ⟨-, hp⟩ := exec_cases h
  · exact ⟨fun _ => rfl, fun _ => rfl, fun _ => ⟨rfl, rfl, .inl rfl⟩⟩
  · exact ⟨fun _ => rfl, fun _ => rfl, fun _ => ⟨rfl, rfl, .inl rfl⟩⟩
  · exact ⟨fun _ => rfl, fun _ => rfl, fun _ => ⟨rfl, rfl, .inr ⟨rfl, rfl⟩⟩⟩
  · obtain ⟨hseq, hquant, hclock⟩ := performs_frame hp
    refine ⟨hseq, hquant, fun hi => ?_⟩
    obtain ⟨hengine, hconf, hrun⟩ := hclock hi
    exact ⟨hengine, hconf, .inl hrun⟩

end Sys2Proof.Proofs
end

section
/-!
PROOFS. The shift register: one STEP bit by bit (spec/41 R101), the draw (R102), a forced bit (R104), and where
the bits stand after any number of STEPs (R104 c, R107).
-/
namespace Sys2Proof.Proofs

open Sys2Proof.Machine

/-! ### One STEP -/

theorem rotateWithFlip_eq_pushBit (reg : Half) (flip : Bool) :
    rotateWithFlip reg flip = pushBit reg (reg.getLsbD 15 ^^ flip) := rfl

theorem getLsbD_rotateWithFlip_zero (reg : Half) (flip : Bool) :
    (rotateWithFlip reg flip).getLsbD 0 = (reg.getLsbD 15 ^^ flip) := by
  rw [rotateWithFlip_eq_pushBit, getLsbD_pushBit _ _ (by decide), if_pos rfl]

theorem getLsbD_rotateWithFlip_succ (reg : Half) (flip : Bool) {i : Nat} (hi : i < 15) :
    (rotateWithFlip reg flip).getLsbD (i + 1) = reg.getLsbD i := by
  rw [rotateWithFlip_eq_pushBit, getLsbD_pushBit _ _ (Nat.succ_lt_succ hi), if_neg (Nat.succ_ne_zero i),
    Nat.succ_sub_one]

/-- Without a flip bit 15 goes round to bit 0 as it is (spec/41 R101 a). -/
theorem getLsbD_rotateWithFlip_false (reg : Half) {i : Nat} (hi : i < 16) :
    (rotateWithFlip reg false).getLsbD ((i + 1) % 16) = reg.getLsbD i := by
  obtain hlow | rfl : i < 15 ∨ i = 15 := by omega
  · rw [Nat.mod_eq_of_lt (Nat.succ_lt_succ hlow), getLsbD_rotateWithFlip_succ reg false hlow]
  · rw [getLsbD_rotateWithFlip_zero, Bool.xor_false]

/-- The registers after one STEP, before its port events (spec/41 R101). -/
def stepped (s : State) : State :=
  { s with reg := steppedReg s, drawAnswers := s.drawAnswers.tail, draws := s.draws + 1 }

theorem exec_step_of_ok {s : State} (hf : s.fault = false) :
    exec .step s = .next ((stepped s).logged [.draw s.nextDraw, okRsp 0]) :=
  (exec_of_performs hf .step).trans
    (congrArg Host.Outcome.next (State.logged_logged (stepped s) [.draw s.nextDraw] [okRsp 0]))

/-- Settles O43: the stepped register, bit by bit. -/
theorem stepRotatesWithTheFlip : Obligations.StepRotatesWithTheFlip := by
  unfold Obligations.StepRotatesWithTheFlip
  exact fun s hf => ⟨steppedReg s, exec_step_of_ok hf,
    fun _ hi => getLsbD_rotateWithFlip_succ _ _ hi, getLsbD_rotateWithFlip_zero _ _⟩

/-! ### The draw -/

theorem nextDraw_lt {s : State} (h : 0 < s.cfg.flipDenom) : s.nextDraw < s.cfg.flipDenom := Nat.mod_lt _ h

/-- An answer the environment has fixed is the draw, if it is in range (spec/30 R69). -/
theorem nextDraw_of_answer {s : State} {r : Half} {rest : List Half} (hr : s.drawAnswers = r :: rest)
    (hlt : r.toNat < s.cfg.flipDenom) : s.nextDraw = r.toNat := by
  simp only [State.nextDraw, hr, Nat.mod_eq_of_lt hlt]

/-- The numerator 0 never flips (spec/41 R102). -/
theorem not_flip_of_zero {s : State} (h : s.flipNum = 0) : decide (s.nextDraw < s.flipNum.toNat) = false := by
  rw [h]
  exact decide_eq_false (Nat.not_lt_zero _)

/-- Settles O44: the draw is a remainder by the denominator, and nothing is below 0. -/
theorem drawLiesBelowTheDenominator : Obligations.DrawLiesBelowTheDenominator := by
  unfold Obligations.DrawLiesBelowTheDenominator
  exact fun s h => ⟨nextDraw_lt (Nat.zero_lt_of_lt h), fun _ _ hr hlt => nextDraw_of_answer hr hlt,
    not_flip_of_zero⟩

/-! ### Any number of STEPs -/

/-- `SteppedTimes k s t`: from `s` to `t` the register made `k` STEPs. Bits that have not left at the top stand
`k` places up whatever the flips, and without flips every bit does, round the end. -/
structure SteppedTimes (k : Nat) (s t : State) : Prop where
  rangeDivisor : t.rangeDivisor = s.rangeDivisor
  shifted : ∀ i, i + k < 16 → t.reg.getLsbD (i + k) = s.reg.getLsbD i
  rotated : s.flipNum = 0 → ∀ i < 16, t.reg.getLsbD ((i + k) % 16) = s.reg.getLsbD i

theorem SteppedTimes.refl (s : State) : SteppedTimes 0 s s where
  rangeDivisor := rfl
  shifted _ _ := rfl
  rotated _ i hi := by rw [Nat.add_zero, Nat.mod_eq_of_lt hi]

/-- One STEP before `k` others. -/
theorem SteppedTimes.after_step {k : Nat} {s u t : State} (h : SteppedTimes k u t)
    (hreg : u.reg = steppedReg s) (hflip : u.flipNum = s.flipNum) (hdiv : u.rangeDivisor = s.rangeDivisor) :
    SteppedTimes (k + 1) s t where
  rangeDivisor := h.rangeDivisor.trans hdiv
  shifted i hi := by
    rw [Nat.add_comm k 1, ← Nat.add_assoc, h.shifted (i + 1) (by omega), hreg, steppedReg,
      getLsbD_rotateWithFlip_succ _ _ (by omega)]
  rotated hzero i hi := by
    have hplace : (i + (k + 1)) % 16 = ((i + 1) % 16 + k) % 16 := by omega
    rw [hplace, h.rotated (hflip.trans hzero) _ (Nat.mod_lt _ (by decide)), hreg, steppedReg,
      not_flip_of_zero hzero, getLsbD_rotateWithFlip_false _ hi]

/-- In an unfaulted state any number of STEPs completes, whatever is drawn. -/
theorem execAll_steps (k : Nat) {s : State} (hf : s.fault = false) :
    ∃ t, execAll (List.replicate k .step) s = .next t ∧ SteppedTimes k s t := by
  induction k generalizing s with
  | zero => exact ⟨s, rfl, .refl s⟩
  | succ k ih =>
    obtain ⟨t, hrest, hstepped⟩ := ih (s := (stepped s).logged [.draw s.nextDraw, okRsp 0]) hf
    exact ⟨t, execAll_cons.mpr ⟨_, exec_step_of_ok hf, hrest⟩, hstepped.after_step rfl rfl rfl⟩

/-- Settles O45: `execAll_steps` without flips; a multiple of 16 brings every bit back to its place. -/
theorem stepsWithoutFlipsRotate : Obligations.StepsWithoutFlipsRotate := by
  unfold Obligations.StepsWithoutFlipsRotate
  intro s k hf hzero
  obtain ⟨t, hrun, hstepped⟩ := execAll_steps k hf
  have hrotated := hstepped.rotated hzero
  refine ⟨t, hrun, hstepped.rangeDivisor, hrotated, fun hround => BitVec.eq_of_getLsbD_eq fun i hi => ?_⟩
  have hplace : (i + k) % 16 = i := by omega
  rw [← hrotated i hi, hplace]

/-! ### A forced bit -/

/-- The register with bit 0 overwritten (spec/41 R104). -/
def forcedReg (reg : Half) (b : Bool) : Half := reg.extractLsb' 1 15 ++ BitVec.ofBool b

theorem getLsbD_forcedReg (reg : Half) (b : Bool) {i : Nat} (hi : i < 16) :
    (forcedReg reg b).getLsbD i = if i = 0 then b else reg.getLsbD i := by
  rw [forcedReg, BitVec.getLsbD_append]
  cases i with
  | zero => simp
  | succ i => simp [show i < 15 by omega, Nat.add_comm]

/-- Settles O48: the forced register, bit by bit; then `execAll_steps`, by which bit 0 moves up with the
others. -/
theorem forceBitWritesBitZero : Obligations.ForceBitWritesBitZero := by
  unfold Obligations.ForceBitWritesBitZero
  intro b s hf
  have hzero : (forcedReg s.reg b).getLsbD 0 = b := getLsbD_forcedReg s.reg b (by decide)
  refine ⟨⟨forcedReg s.reg b, exec_of_performs hf .forceBit, hzero, fun i hi hne => ?_⟩, fun k hk => ?_⟩
  · rw [getLsbD_forcedReg s.reg b hi, if_neg hne]
  · obtain ⟨t, hrun, hstepped⟩ :=
      execAll_steps k (s := { s with reg := forcedReg s.reg b }.logged [okRsp 0]) hf
    have hbit := hstepped.shifted 0 (by omega)
    rw [Nat.zero_add] at hbit
    exact ⟨t, execAll_of_performs .forceBit hf hrun, hbit.trans hzero⟩

end Sys2Proof.Proofs
end

section
/-!
PROOFS. The note transform and its laws (spec/41 R103, R108), and the two settings of the sequencer with their
checks (R105, R106).
-/
namespace Sys2Proof.Proofs

open Sys2Proof.Machine

/-! ### The note transform -/

/-- The transform in one line (spec/41 R103). -/
theorem noteOf_eq (b d : Nat) : noteOf b d = ((b * 8 + 256) * 32 / d + 16) / 32 := rfl

theorem noteOf_mono {b b' : Nat} (d : Nat) (h : b ≤ b') : noteOf b d ≤ noteOf b' d := by
  have hquot : (b * 8 + 256) * 32 / d ≤ (b' * 8 + 256) * 32 / d := Nat.div_le_div_right (by omega)
  rw [noteOf_eq, noteOf_eq]
  omega

theorem noteOf_anti (b : Nat) {d d' : Nat} (hpos : 1 ≤ d) (h : d ≤ d') : noteOf b d' ≤ noteOf b d := by
  have hquot : (b * 8 + 256) * 32 / d' ≤ (b * 8 + 256) * 32 / d := Nat.div_le_div_left h hpos
  rw [noteOf_eq, noteOf_eq]
  omega

/-- The bias of 16 before the last shift rounds to the nearest, halves up (spec/41 R108). -/
theorem noteOf_rounds (b d : Nat) : 64 * noteOf b d ≤ 2 * ((b * 8 + 256) * 32 / d) + 32 ∧
    2 * ((b * 8 + 256) * 32 / d) + 32 < 64 * noteOf b d + 64 := by
  rw [noteOf_eq]
  omega

theorem noteOf_57_eq_five_iff (b : Nat) : noteOf b 57 = 5 ↔ 1 ≤ b ∧ b ≤ 7 := by
  rw [noteOf_eq]
  omega

/-- Settles O47, law by law. -/
theorem noteTransformLaws : Obligations.NoteTransformLaws := by
  unfold Obligations.NoteTransformLaws
  exact ⟨fun _ _ d h => noteOf_mono d h, fun b _ _ hpos h => noteOf_anti b hpos h, fun _ => ⟨rfl, rfl⟩,
    fun _ d hb => noteOf_le d hb, noteOf_rounds, rfl, rfl, fun b _ => noteOf_57_eq_five_iff b⟩

/-- Settles O46: DERIVE_NOTE only responds, and a byte's note fits the data field. -/
theorem deriveNoteIsTheTransform : Obligations.DeriveNoteIsTheTransform := by
  unfold Obligations.DeriveNoteIsTheTransform
  refine ⟨by decide, fun s hf hdiv => ⟨_, exec_of_performs hf (.deriveNote hdiv), ?_⟩⟩
  have hnote := noteOf_le (b := s.reg.toNat % 256) s.rangeDivisor.toNat (by omega)
  rw [lowByte_toNat, BitVec.toNat_ofNat, Nat.mod_eq_of_lt (by omega), noteOf_eq]

/-! ### The settings -/

section Unfaulted

variable {s : State} (hf : s.fault = false)
include hf

theorem exec_setFlipProb_of_large {p : Half} (hp : s.cfg.flipDenom ≤ p.toNat) :
    exec (.setFlipProb p) s = .next (s.withError .flipRange) := by
  rw [exec, execSetFlipProb, State.command_of_ok hf, if_pos hp, State.raise_eq_withError]

theorem exec_setRange_of_outOfBounds {index : Half} (h : 9 < index.toNat) :
    exec (.setRange index) s = .next (s.withError .rangeIndex) := by
  rw [exec, execSetRange, State.command_of_ok hf, if_pos h, State.raise_eq_withError]

/-- An entry that is zero is never selected (spec/41 R106). -/
theorem exec_setRange_of_zeroEntry {index : Half} (h : index.toNat < 10)
    (hzero : s.cfg.divisorTable[index.toNat] = 0) :
    exec (.setRange index) s = .next (s.withError .rangeIndex) := by
  rw [exec, execSetRange, State.command_of_ok hf, if_neg (Nat.not_lt_of_le (Nat.le_of_lt_succ h)),
    romDivtab_of_lt s.cfg h]
  simp only [hzero, if_true, State.raise_eq_withError]

end Unfaulted

/-- Settles O49: the denominator decides between the exception and the store. -/
theorem setFlipProbChecksTheDenominator : Obligations.SetFlipProbChecksTheDenominator := by
  unfold Obligations.SetFlipProbChecksTheDenominator
  exact fun p s => ⟨rfl, fun hf => ⟨exec_setFlipProb_of_large hf,
    fun hp => exec_of_performs hf (.setFlipProb hp)⟩⟩

/-- Settles O50, by the two checks in their order, then the effect when both hold. -/
theorem setRangeSelectsATableEntry : Obligations.SetRangeSelectsATableEntry := by
  unfold Obligations.SetRangeSelectsATableEntry
  refine fun index s => ⟨rfl, fun hf => ⟨exec_setRange_of_outOfBounds hf, fun h =>
    ⟨exec_setRange_of_zeroEntry hf h, fun hentry => ?_⟩⟩⟩
  exact ⟨index.extractLsb' 0 4, extractNibble_toNat (by omega), exec_of_performs hf
    (.setRange (Nat.le_of_lt_succ h) (romDivtab_of_lt s.cfg h) hentry)⟩

end Sys2Proof.Proofs
end

section
/-!
PROOFS. The voltage lookup table: an entry is the exact value rounded to the nearest code (spec/42 R132, R133),
and entries whose exact values lie a whole code apart differ (R134).
-/
namespace Sys2Proof.Proofs

/-! ### One entry -/

/-- The table of a legal configuration has at least one step (spec/00 R6). -/
theorem vltSteps_pos {c : Config} (hv : c.Valid) : (0 : Int) < c.vltSteps := by
  obtain ⟨-, -, -, ⟨hpos, -, -⟩, -⟩ := hv
  exact_mod_cast hpos

/-- The codes span at least one per step (spec/00 R6). -/
theorem vltSteps_le_codeRange {c : Config} (hv : c.Valid) : c.vltSteps ≤ c.codeRange.natAbs := by
  obtain ⟨-, -, -, ⟨-, -, hrange⟩, -⟩ := hv
  exact hrange

/-- The floor of `x / (2 * steps)` by its two inequalities: what rounding halves up means (spec/42 R133). -/
theorem vltValue_rounds {c : Config} (hpos : (0 : Int) < c.vltSteps) (i : Nat) :
    2 * (c.codeMax * c.vltSteps - c.codeRange * i) - c.vltSteps < 2 * c.vltSteps * c.vltValue i ∧
      2 * c.vltSteps * c.vltValue i ≤ 2 * (c.codeMax * c.vltSteps - c.codeRange * i) + c.vltSteps := by
  have hbelow := Int.mul_ediv_self_le (x := 2 * (c.codeMax * c.vltSteps - c.codeRange * i) + c.vltSteps)
    (k := 2 * c.vltSteps) (by omega)
  have habove := Int.lt_mul_ediv_self_add (x := 2 * (c.codeMax * c.vltSteps - c.codeRange * i) + c.vltSteps)
    (k := 2 * c.vltSteps) (by omega)
  rw [← Config.vltValue] at hbelow habove
  exact ⟨by linarith, hbelow⟩

/-- Where the formula needs no rounding, the entry is its exact value. -/
theorem vltValue_of_exact {c : Config} (hpos : (0 : Int) < c.vltSteps) {i : Nat} {v : Int}
    (hexact : c.codeMax * c.vltSteps - c.codeRange * i = c.vltSteps * v) : c.vltValue i = v := by
  have hnum : 2 * (c.codeMax * c.vltSteps - c.codeRange * i) + c.vltSteps =
      c.vltSteps + 2 * c.vltSteps * v := by
    rw [hexact]
    ring
  rw [Config.vltValue, hnum, Int.add_mul_ediv_left _ _ (by omega),
    Int.ediv_eq_zero_of_lt hpos.le (by omega), zero_add]

/-- The stored code is the entry's value (spec/00 R6: every entry is a `RES`-bit code). -/
theorem romVlt_toNat {c : Config} (hv : c.Valid) {i : Nat} (hi : i ≤ c.vltSteps) :
    ((c.romVlt i).toNat : Int) = c.vltValue i := by
  obtain ⟨-, -, -, -, hcodes, -⟩ := hv
  obtain ⟨hnonneg, hlt⟩ := hcodes i (Nat.lt_succ_of_le hi)
  have hmod : c.vltValue i % (2 ^ 12 : Nat) = c.vltValue i := Int.emod_eq_of_lt hnonneg hlt
  rw [Config.romVlt, BitVec.toNat_ofInt, hmod, Int.toNat_of_nonneg hnonneg]

/-- Settles O58: the ends need no rounding, the rest is `vltValue_rounds`. -/
theorem lookupTableRoundsTheFormula : Obligations.LookupTableRoundsTheFormula := by
  unfold Obligations.LookupTableRoundsTheFormula
  intro c hv
  have hpos := vltSteps_pos hv
  refine ⟨vltValue_of_exact hpos ?_, vltValue_of_exact hpos (by ring),
    fun i hi => ⟨romVlt_toNat hv hi, vltValue_rounds hpos i⟩⟩
  rw [Nat.cast_zero]
  ring

/-! ### Two entries -/

/-- Exact values that lie at least one code apart round to different codes (spec/42 R134). -/
theorem vltValue_lt {c : Config} (hpos : (0 : Int) < c.vltSteps) {i j : Nat}
    (hgap : (c.vltSteps : Int) ≤ c.codeRange * i - c.codeRange * j) : c.vltValue i < c.vltValue j := by
  have hnum : 2 * (c.codeMax * c.vltSteps - c.codeRange * i) + c.vltSteps + 2 * c.vltSteps * 1 ≤
      2 * (c.codeMax * c.vltSteps - c.codeRange * j) + c.vltSteps := by
    linarith
  have hquot := Int.ediv_le_ediv (c := 2 * c.vltSteps) (by omega) hnum
  rwa [Int.add_mul_ediv_left _ _ (by omega)] at hquot

/-- The same for the stored codes of a legal table. -/
theorem romVlt_lt {c : Config} (hv : c.Valid) {i j : Nat} (hi : i ≤ c.vltSteps) (hj : j ≤ c.vltSteps)
    (hgap : (c.vltSteps : Int) ≤ c.codeRange * i - c.codeRange * j) :
    (c.romVlt i).toNat < (c.romVlt j).toNat := by
  have hlt := vltValue_lt (vltSteps_pos hv) hgap
  rw [← romVlt_toNat hv hi, ← romVlt_toNat hv hj] at hlt
  exact_mod_cast hlt

/-- Settles O59: `abs(CODE_RANGE) ≥ VLT_STEPS` keeps any two entries a whole code apart. -/
theorem lookupTableIsStrictlyMonotonic : Obligations.LookupTableIsStrictlyMonotonic := by
  unfold Obligations.LookupTableIsStrictlyMonotonic
  intro c i j hv hij hj
  have hi : i ≤ c.vltSteps := hij.le.trans hj
  have hstep : (1 : Int) ≤ j - i := by omega
  have hrange := vltSteps_le_codeRange hv
  refine ⟨fun hfall => romVlt_lt hv hj hi ?_, fun hrise => romVlt_lt hv hi hj ?_⟩
  · calc (c.vltSteps : Int) ≤ c.codeRange := by omega
      _ ≤ c.codeRange * (j - i) := le_mul_of_one_le_right hfall.le hstep
      _ = c.codeRange * j - c.codeRange * i := by ring
  · calc (c.vltSteps : Int) ≤ -c.codeRange := by omega
      _ ≤ -c.codeRange * (j - i) := le_mul_of_one_le_right (by omega) hstep
      _ = c.codeRange * i - c.codeRange * j := by ring

end Sys2Proof.Proofs
end

section
/-!
PROOFS. SET_NOTE: what the scan finds, the note it resolves to (spec/42 R122), and the laws of the resolved
pitch (R125), which all follow from its being the least tone at or above the note.
-/
namespace Sys2Proof.Proofs

open Sys2Proof.Machine

/-! ### The scan -/

theorem scaleTableOk_of_mem {c : Config} (hv : c.Valid) {tab : Vector (BitVec 4) 8} (h : tab ∈ c.scaleRom) :
    ScaleTableOk tab := by
  obtain ⟨-, -, ⟨-, hscales⟩, -⟩ := hv
  exact hscales tab h

/-- The scan takes the first entry that is at least `raw` (spec/42 R122). -/
theorem snapUp_first {tab : Vector (BitVec 4) 8} {raw m : Nat} (h : snapUp tab raw = some m) :
    ∃ j : Fin 8, tab[j].toNat = m ∧ raw ≤ m ∧ ∀ k < j, tab[k].toNat < raw := by
  obtain ⟨e, hfind, rfl⟩ := Option.map_eq_some_iff.mp h
  obtain ⟨hle, j, hj, rfl, hbefore⟩ := List.find?_eq_some_iff_getElem.mp hfind
  have hj8 : j < 8 := by simpa using hj
  exact ⟨⟨j, hj8⟩, by simp, by simpa using hle, fun k hk => by simpa using hbefore k hk⟩

/-- In an ascending table that entry is the least of all that are at least `raw`. -/
theorem snapUp_isLeast {tab : Vector (BitVec 4) 8} (hok : ScaleTableOk tab) {raw m : Nat}
    (h : snapUp tab raw = some m) : IsLeast {x | (∃ e ∈ tab.toList, e.toNat = x) ∧ raw ≤ x} m := by
  obtain ⟨j, rfl, hle, hbefore⟩ := snapUp_first h
  obtain ⟨hascending, -⟩ := hok
  refine ⟨⟨⟨tab[j], by simp, rfl⟩, hle⟩, ?_⟩
  rintro _ ⟨⟨e, he, rfl⟩, hraw⟩
  obtain ⟨k, hk, rfl⟩ := List.mem_iff_getElem.mp he
  have hk8 : k < 8 := by simpa using hk
  have hentry : tab.toList[k] = tab[k] := Vector.getElem_toList hk
  rw [hentry] at hraw
  have hjk : j ≤ ⟨k, hk8⟩ := not_lt.mp fun hlt => Nat.not_lt_of_le hraw (hbefore ⟨k, hk8⟩ hlt)
  have hentries := hascending.rel_get_of_le (a := ⟨j, by simp⟩) (b := ⟨k, hk⟩) hjk
  simpa [BitVec.le_def] using hentries

/-! ### The resolved note -/

theorem resolveNote_of_chromatic {s : State} (h : s.scaleSel = 0) (note : Nat) :
    s.resolveNote note = some (note / 12, note % 12) := by
  rw [State.resolveNote, if_pos h]

/-- Of the entry the scan takes, a whole octave is carried: the sentinel 12 becomes semitone 0 of the next
octave (spec/42 R122). -/
theorem resolveNote_of_snapUp {s : State} {tab : Vector (BitVec 4) 8} {note m : Nat} (hne : s.scaleSel ≠ 0)
    (hrom : s.cfg.romScale (s.scaleSel.toNat - 1) = some tab) (hsnap : snapUp tab (note % 12) = some m)
    (hm : m ≤ 12) : s.resolveNote note = some (note / 12 + m / 12, m % 12) := by
  simp only [State.resolveNote, if_neg hne, hrom, Option.bind_some, hsnap]
  split
  next hwrap => rw [hwrap]
  next hbelow =>
    have hlt : m < 12 := by omega
    rw [Nat.div_eq_of_lt hlt, Nat.mod_eq_of_lt hlt, Nat.add_zero]

/-- The registers hold the resolved octave and semitone in full (spec/10 R26, R27). -/
theorem exec_setNote_of_resolveNote {s : State} {note : Half} {m : Nat} (hf : s.fault = false) (hm : m ≤ 12)
    (hres : s.resolveNote note.toNat = some (note.toNat / 12 + m / 12, m % 12)) :
    ∃ (o : Half) (r : BitVec 4), o.toNat = note.toNat / 12 + m / 12 ∧ r.toNat = m % 12 ∧
      exec (.setNote note) s = .next ({ s with octave := o, semitone := r }.logged [okRsp 0]) :=
  ⟨_, _, Nat.mod_eq_of_lt (by omega), Nat.mod_eq_of_lt (by omega), exec_of_performs hf (.setNote hres)⟩

/-- Settles O53: the entry the scan takes, with its carry. -/
theorem setNoteSnapsUp : Obligations.SetNoteSnapsUp := by
  unfold Obligations.SetNoteSnapsUp
  refine fun note s hf => ⟨fun hzero => ?_, fun hv hne hstored => ?_⟩
  · exact ⟨_, _, Nat.mod_eq_of_lt (by omega), Nat.mod_eq_of_lt (by omega),
      exec_of_performs hf (.setNote (resolveNote_of_chromatic hzero _))⟩
  · have hok := scaleTableOk_of_mem hv (List.getElem_mem hstored)
    obtain ⟨m, hsnap, hm⟩ := snapUp_isSome hok (raw := note.toNat % 12) (by omega)
    obtain ⟨o, r, ho, hr, hexec⟩ := exec_setNote_of_resolveNote hf hm
      (resolveNote_of_snapUp hne (List.getElem?_eq_getElem hstored) hsnap hm)
    obtain ⟨j, rfl, hle, hbefore⟩ := snapUp_first hsnap
    refine ⟨j, o, r, hle, hbefore, fun hwrap => ?_, fun hbelow => ?_, hexec⟩
    · rw [hwrap] at ho hr
      exact ⟨ho, BitVec.eq_of_toNat_eq hr⟩
    · have hlt : s.cfg.scaleRom[s.scaleSel.toNat - 1][j].toNat < 12 :=
        lt_of_le_of_ne hm fun h => hbelow (BitVec.eq_of_toNat_eq h)
      rw [Nat.div_eq_of_lt hlt] at ho
      rw [Nat.mod_eq_of_lt hlt] at hr
      exact ⟨ho, BitVec.eq_of_toNat_eq hr⟩

/-! ### The resolved pitch -/

/-- The offsets at or above `raw` to which a note may snap: any under the chromatic scale, else the entries of
the active table. -/
def tonesFrom (s : State) (raw : Nat) : Set Nat :=
  {x | (s.scaleSel ≠ 0 → ∃ tab, s.cfg.romScale (s.scaleSel.toNat - 1) = some tab ∧
    ∃ e ∈ tab.toList, e.toNat = x) ∧ raw ≤ x}

/-- `note` has snapped up to the offset `m` above the start of its octave, and `t` holds the result. -/
structure Snapped (s : State) (note m : Nat) (t : State) : Prop where
  least : IsLeast (tonesFrom s (note % 12)) m
  le : m ≤ 12
  octave : t.octave.toNat = note / 12 + m / 12
  semitone : t.semitone.toNat = m % 12

namespace Snapped

variable {s t t' : State} {note note' m m' : Nat}

theorem pitch (h : Snapped s note m t) : t.pitch = 12 * (note / 12) + m := by
  have := h.octave
  have := h.semitone
  rw [State.pitch]
  omega

/-- The snap goes up, and never beyond the start of the next octave (spec/42 R125 b). -/
theorem pitch_bounds (h : Snapped s note m t) : note ≤ t.pitch ∧ t.pitch ≤ note + (12 - note % 12) := by
  obtain ⟨-, hraw⟩ := h.least.1
  have := h.le
  rw [h.pitch]
  omega

/-- Within an octave the least tone at or above a higher offset is no lower; a later octave starts no lower
than any tone of an earlier one (spec/42 R125 a). -/
theorem pitch_mono (h : Snapped s note m t) (h' : Snapped s note' m' t') (hle : note ≤ note') :
    t.pitch ≤ t'.pitch := by
  have hm := h.le
  rw [h.pitch, h'.pitch]
  obtain hlater | hsame : note / 12 < note' / 12 ∨ note / 12 = note' / 12 := by omega
  · omega
  · obtain ⟨htone, hraw⟩ := h'.least.1
    have := h.least.2 ⟨htone, (show note % 12 ≤ note' % 12 by omega).trans hraw⟩
    omega

/-- A note already on the scale is unchanged (spec/42 R122 b). -/
theorem eq_raw_of_mem (h : Snapped s note m t) {raw : Nat} (hmem : note % 12 ∈ tonesFrom s raw) :
    m = note % 12 :=
  le_antisymm (h.least.2 ⟨hmem.1, le_rfl⟩) h.least.1.2

/-- The resolved semitone is a tone of the scale, unless the wrap's 0 is none (spec/42 R125 c). -/
theorem pitch_mod_mem (h : Snapped s note m t) (hwrap : m < 12 ∨ 0 ∈ tonesFrom s 0) :
    t.pitch % 12 ∈ tonesFrom s 0 := by
  have hm := h.le
  rw [h.pitch]
  obtain hlt | rfl : m < 12 ∨ m = 12 := by omega
  · rw [Nat.mul_add_mod, Nat.mod_eq_of_lt hlt]
    exact ⟨h.least.1.1, Nat.zero_le m⟩
  · rw [Nat.mul_add_mod]
    exact hwrap.resolve_left (lt_irrefl 12)

/-- Quantizing the resolved pitch again changes nothing (spec/42 R125 d). -/
theorem pitch_idem (h : Snapped s note m t) (hwrap : m < 12 ∨ 0 ∈ tonesFrom s 0)
    (h' : Snapped s t.pitch m' t') : t'.pitch = t.pitch := by
  rw [h'.pitch, h'.eq_raw_of_mem (h.pitch_mod_mem hwrap), Nat.div_add_mod]

end Snapped

/-- Under the chromatic scale or a stored one, a note resolves to the least tone at or above it. -/
theorem resolveNote_isLeast {s : State} (hv : s.cfg.Valid) (hsel : s.scaleSel.toNat ≤ s.cfg.numScales)
    (note : Nat) : ∃ m, IsLeast (tonesFrom s (note % 12)) m ∧ m ≤ 12 ∧
      s.resolveNote note = some (note / 12 + m / 12, m % 12) := by
  by_cases hne : s.scaleSel = 0
  · refine ⟨note % 12, ⟨⟨fun h => absurd hne h, le_rfl⟩, fun _ hx => hx.2⟩, by omega, ?_⟩
    rw [resolveNote_of_chromatic hne, Nat.mod_mod, Nat.div_eq_of_lt (Nat.mod_lt _ (by decide)), Nat.add_zero]
  · obtain ⟨tab, hmem, hrom⟩ := romScale_of_selected hsel hne
    have hok := scaleTableOk_of_mem hv hmem
    obtain ⟨m, hsnap, hm⟩ := snapUp_isSome hok (raw := note % 12) (by omega)
    obtain ⟨⟨htone, hraw⟩, hleast⟩ := snapUp_isLeast hok hsnap
    refine ⟨m, ⟨⟨fun _ => ⟨tab, hrom, htone⟩, hraw⟩, fun x ⟨hx, hxraw⟩ => ?_⟩, hm,
      resolveNote_of_snapUp hne hrom hsnap hm⟩
    obtain ⟨tab', hrom', he⟩ := hx hne
    obtain rfl : tab = tab' := Option.some.inj (hrom.symm.trans hrom')
    exact hleast ⟨he, hxraw⟩

/-- What SET_NOTE leaves in an unfaulted state of a legal configuration. -/
theorem snapped_of_setNote {s t : State} {note : Half} (hv : s.cfg.Valid)
    (hsel : s.scaleSel.toNat ≤ s.cfg.numScales) (hf : s.fault = false) (h : exec (.setNote note) s = .next t) :
    ∃ m, Snapped s note.toNat m t := by
  obtain ⟨m, hleast, hm, hres⟩ := resolveNote_isLeast hv hsel note.toNat
  obtain ⟨o, r, ho, hr, hexec⟩ := exec_setNote_of_resolveNote hf hm hres
  cases hexec.symm.trans h
  exact ⟨m, hleast, hm, ho, hr⟩

/-- Settles O54: the laws of the least tone at or above the note, by `Snapped`. -/
theorem quantizedPitchLaws : Obligations.QuantizedPitchLaws := by
  unfold Obligations.QuantizedPitchLaws
  intro n s t hv hsel hf h
  obtain ⟨m, hsnap⟩ := snapped_of_setNote hv hsel hf h
  have hm := hsnap.le
  have ho := hsnap.octave
  have hr := hsnap.semitone
  refine ⟨fun hzero => ?_, fun n' t' hle h' => ?_, hsnap.pitch_bounds, fun tab hne hrom => ?_,
    fun q t' hq hwrap h' => ?_⟩
  · have := hsnap.eq_raw_of_mem (raw := 0) ⟨fun hne => absurd hzero hne, Nat.zero_le _⟩
    omega
  · obtain ⟨m', hsnap'⟩ := snapped_of_setNote hv hsel hf h'
    exact hsnap.pitch_mono hsnap' hle
  · obtain ⟨tab', hrom', e, he, rfl⟩ := hsnap.least.1.1 hne
    obtain rfl : tab = tab' := Option.some.inj (hrom.symm.trans hrom')
    obtain hlt | hwrap : e.toNat < 12 ∨ e.toNat = 12 := by omega
    · rw [Nat.mod_eq_of_lt hlt] at hr
      exact .inl ⟨BitVec.eq_of_toNat_eq hr ▸ he, hr ▸ hlt⟩
    · rw [hwrap] at ho hr
      exact .inr ⟨BitVec.eq_of_toNat_eq hr, ho⟩
  · obtain ⟨m', hsnap'⟩ := snapped_of_setNote hv hsel hf h'
    rw [hq] at hsnap'
    refine hsnap.pitch_idem (hwrap.imp (fun hoctave => by omega) fun ⟨tab, hrom, hfirst⟩ => ?_) hsnap'
    exact ⟨fun _ => ⟨tab, hrom, tab[0], by simp, by rw [hfirst]; rfl⟩, le_rfl⟩

end Sys2Proof.Proofs
end

section
/-!
PROOFS. The other commands of the Scale Quantizer (spec/42 R121, R123, R124), and the two stops of the model in
states that the invariants rule out (R135, spec/20 R53).
-/
namespace Sys2Proof.Proofs

open Sys2Proof.Machine

section Unfaulted

variable {s : State} (hf : s.fault = false)
include hf

theorem exec_setScale_of_large {sel : Half} (hsel : s.cfg.numScales < sel.toNat) :
    exec (.setScale sel) s = .next (s.withError .scaleIndex) := by
  rw [exec, execSetScale, State.command_of_ok hf, if_pos hsel, State.raise_eq_withError]

theorem exec_deriveNote_of_zeroDivisor (hdiv : s.rangeDivisor = 0) :
    exec .deriveNote s = .fault .divideByZero := by
  rw [exec, execDeriveNote, State.command_of_ok hf, if_pos hdiv]

theorem exec_setNote_of_unresolved {note : Half} (hres : s.resolveNote note.toNat = none) :
    exec (.setNote note) s = .fault .scanOutsideScaleTable := by
  rw [exec, execSetNote, State.command_of_ok hf]
  simp only [hres]

end Unfaulted

/-- A scale number above `NUM_SCALES` names no stored table, so nothing resolves. -/
theorem resolveNote_of_large {s : State} (hne : s.scaleSel ≠ 0) (hlarge : s.cfg.numScales < s.scaleSel.toNat)
    (note : Nat) : s.resolveNote note = none := by
  have hrom : s.cfg.romScale (s.scaleSel.toNat - 1) = none :=
    List.getElem?_eq_none (Nat.le_sub_one_of_lt hlarge)
  simp only [State.resolveNote, if_neg hne, hrom, Option.bind_none]

/-- Settles O27: both stops, each by the check that the invariants make hold. -/
theorem brokenStatesStopByName : Obligations.BrokenStatesStopByName := by
  unfold Obligations.BrokenStatesStopByName
  exact ⟨fun _ hf hdiv => exec_deriveNote_of_zeroDivisor hf hdiv,
    fun _ _ hf hne hlarge => exec_setNote_of_unresolved hf (resolveNote_of_large hne hlarge _)⟩

/-- Settles O52: the number of stored scales decides between the exception and the store. -/
theorem setScaleSelectsWithoutResolving : Obligations.SetScaleSelectsWithoutResolving := by
  unfold Obligations.SetScaleSelectsWithoutResolving
  exact fun sel s => ⟨rfl, fun hf => ⟨exec_setScale_of_large hf,
    fun hsel => exec_of_performs hf (.setScale hsel)⟩⟩

/-- The data field carries the entry's value (spec/42 R123). -/
theorem zextRes_romVlt_toNat {c : Config} (hv : c.Valid) {i : Nat} (hi : i ≤ c.vltSteps) :
    ((zextRes (c.romVlt i)).toNat : Int) = c.vltValue i := by
  rw [zextRes_toNat, romVlt_toNat hv hi]

/-- Settles O55: GET_CODE's two cases, with the value of the entry in each. -/
theorem getCodeLooksUpOrClamps : Obligations.GetCodeLooksUpOrClamps := by
  unfold Obligations.GetCodeLooksUpOrClamps
  exact fun s hf hv =>
    ⟨fun hidx => ⟨_, zextRes_romVlt_toNat hv hidx, exec_of_performs hf (.getCodeInTable hidx)⟩,
      fun hidx => ⟨_, zextRes_romVlt_toNat hv le_rfl, exec_of_performs hf (.getCodeClamped hidx)⟩⟩

/-- Settles O56: the index is inside the table, or GET_CODE reads the last entry. -/
theorem getCodeAlwaysCompletes : Obligations.GetCodeAlwaysCompletes := by
  unfold Obligations.GetCodeAlwaysCompletes
  intro s hf
  obtain hidx | hidx := le_or_gt s.vltIndex s.cfg.vltSteps
  · exact ⟨_, .ok, hidx, ⟨nofun, fun h => absurd h (Nat.not_lt_of_le hidx)⟩,
      exec_of_performs hf (.getCodeInTable hidx)⟩
  · exact ⟨_, .okClamped, le_rfl, ⟨fun _ => hidx, fun _ => rfl⟩, exec_of_performs hf (.getCodeClamped hidx)⟩

/-- Settles O57: GET_SEMITONE has no check. -/
theorem getSemitoneReportsTheSemitone : Obligations.GetSemitoneReportsTheSemitone := by
  unfold Obligations.GetSemitoneReportsTheSemitone
  exact ⟨by decide, fun s hf => ⟨_, zextNibble_toNat s.semitone, exec_of_performs hf .getSemitone⟩⟩

end Sys2Proof.Proofs
end

section
/-!
PROOFS. The faulted state (spec/60 R144, R145, R149): commands are refused, ticks dropped, and only the reset
strobe leaves it.
-/
namespace Sys2Proof.Proofs

open Sys2Proof.Machine

/-- A tick that is not performed leaves no memory of itself (spec/60 R149). -/
theorem exec_sample_of_dropped {s : State} (h : s.running = false ∨ s.fault = true) :
    exec .sample s = .next s := by
  obtain ⟨hrun, hf, -⟩ | ⟨-, hs⟩ := exec_sample_cases s
  · simp [hrun, hf] at h
  · exact hs

/-- Settles O36, by the two ways SAMPLE can go. -/
theorem tickIsDroppedUnlessRunning : Obligations.TickIsDroppedUnlessRunning := by
  unfold Obligations.TickIsDroppedUnlessRunning
  exact fun _ h => exec_sample_of_dropped h

/-! ### One event in the faulted state -/

section Faulted

variable {s u : State} (hf : u.fault = true)
include hf

/-- Legal or not, a command word is answered REFUSED (spec/60 R144). -/
theorem step_of_faultedCommand {w : CmdWord} (h : s.nextEvent = some (.port (.cmd w), u)) :
    step s = .next u.refuse := by
  cases hw : decodeCmd w with
  | some i => exact (step_of_decoded h hw).trans (exec_of_fault (decodeCmd_isCommand hw) hf)
  | none =>
    rw [step_of_undecoded h hw, State.undecoded, State.rejectWord, if_pos hf]

theorem step_of_faultedTick {b : BitVec 1} (h : s.nextEvent = some (.port (.tick b), u)) :
    step s = .next u := by
  by_cases hb : b = 1
  · exact (step_of_decoded h (if_pos hb)).trans (exec_sample_of_dropped (.inr hf))
  · exact step_of_undecoded h (if_neg hb)

end Faulted

/-- Settles O9, by the port the event arrives at. -/
theorem faultedBlockRefusesCommandsAndDropsTicks : Obligations.FaultedBlockRefusesCommandsAndDropsTicks := by
  unfold Obligations.FaultedBlockRefusesCommandsAndDropsTicks
  exact fun s rest hf =>
    ⟨fun _ harr => step_of_faultedCommand (u := { s with arrivals := rest }) hf (nextEvent_of_one harr),
      fun _ harr => step_of_faultedTick (u := { s with arrivals := rest }) hf (nextEvent_of_one harr)⟩

theorem nextEvent_fault {s u : State} {e : Strobe} (h : s.nextEvent = some (e, u)) :
    u.fault = s.fault ∧ u.faultCause = s.faultCause := by
  rw [State.nextEvent_state h]
  exact ⟨rfl, rfl⟩

/-- Settles O12: with no event, or one at a port, a faulted block keeps `fault` and its first cause. -/
theorem onlyResetLeavesTheFaultedState : Obligations.OnlyResetLeavesTheFaultedState := by
  unfold Obligations.OnlyResetLeavesTheFaultedState
  intro s t h hf hreset
  cases hevent : s.nextEvent with
  | none =>
    cases (step_of_noEvent hevent).symm.trans h
    exact ⟨hf, rfl⟩
  | some eu =>
    obtain ⟨e, u⟩ := eu
    obtain ⟨hfault, hcause⟩ := nextEvent_fault hevent
    have hu : u.fault = true := hfault.trans hf
    match e with
    | .reset =>
      obtain ⟨rest, harr, -⟩ := State.nextEvent_reset hevent
      exact absurd ⟨rest, harr⟩ hreset
    | .port (.cmd w) =>
      cases (step_of_faultedCommand hu hevent).symm.trans h
      exact ⟨hu, hcause⟩
    | .port (.tick b) =>
      cases (step_of_faultedTick hu hevent).symm.trans h
      exact ⟨hu, hcause⟩

end Sys2Proof.Proofs
end

section
/-!
PROOFS. Taking the ConfigurationError (spec/60 R141 to R143): which check of which instruction raises which
cause, and what a step that enters the faulted state writes.
-/
namespace Sys2Proof.Proofs

open Sys2Proof.Machine

/-! ### The failing checks -/

/-- `Raises i s c`: in state `s` the first check of `i` that fails is the one with cause `c` (spec/60 R142,
R148). -/
inductive Raises : Instr → State → Cause → Prop
  | configureRunning {s rate pol low high} (hrun : s.running = true) :
      Raises (.configure rate pol low high) s .sequence
  | configureThreshold {s rate pol low high} (stopped : s.running = false)
      (hwide : fitsRes high = false ∨ fitsRes low = false) :
      Raises (.configure rate pol low high) s .valueRange
  | configureRate {s rate pol low high} (stopped : s.running = false) (hhigh : fitsRes high = true)
      (hlow : fitsRes low = true) (hrate : s.cfg.rateOK rate = false) :
      Raises (.configure rate pol low high) s .rate
  | start {s} (hconf : s.configured = false) : Raises .start s .sequence
  | setDivisor {s} : Raises (.setDivisor 0) s .divisorZero
  | setNextOutput {s code} (hwide : fitsRes code = false) : Raises (.setNextOutput code) s .valueRange
  | setFlipProb {s p} (hp : s.cfg.flipDenom ≤ p.toNat) : Raises (.setFlipProb p) s .flipRange
  | setRangeOutOfBounds {s k} (hk : 9 < k.toNat) : Raises (.setRange k) s .rangeIndex
  | setRangeZeroEntry {s k} (hk : k.toNat < 10) (hzero : s.cfg.divisorTable[k.toNat] = 0) :
      Raises (.setRange k) s .rangeIndex
  | setScale {s sel} (hsel : s.cfg.numScales < sel.toNat) : Raises (.setScale sel) s .scaleIndex
  | readAux {s} (haux : s.cfg.hasAux = false) : Raises .readAux s .illegalCmd

/-- A failing check takes the exception with its cause (spec/60 R142). -/
theorem exec_of_raises {i : Instr} {s : State} {c : Cause} (hf : s.fault = false) (h : Raises i s c) :
    exec i s = .next (s.withError c) := by
  cases h with
  | configureRunning hrun => exact exec_configure_of_running hf hrun
  | configureThreshold stopped hwide => exact exec_configure_of_wideThreshold hf stopped hwide
  | configureRate stopped hhigh hlow hrate => exact exec_configure_of_badRate hf stopped hhigh hlow hrate
  | start hconf => rw [exec_start_of_unconfigured hf hconf, State.raise_eq_withError]
  | setDivisor => exact exec_setDivisor_zero hf
  | setNextOutput hwide => exact exec_setNextOutput_of_wide hf hwide
  | setFlipProb hp => exact exec_setFlipProb_of_large hf hp
  | setRangeOutOfBounds hk => exact exec_setRange_of_outOfBounds hf hk
  | setRangeZeroEntry hk hzero => exact exec_setRange_of_zeroEntry hf hk hzero
  | setScale hsel => exact exec_setScale_of_large hf hsel
  | readAux haux => exact exec_readAux_of_noAux hf haux

/-- CONFIGURE's three checks in their order (spec/60 R148). -/
theorem configure_raises_or_performs (rate : Half) (pol : Polarity) (low high : Half) (s : State) :
    (∃ c, Raises (.configure rate pol low high) s c) ∨ ∃ t, Performs (.configure rate pol low high) s t := by
  cases hrun : s.running with
  | true => exact .inl ⟨_, .configureRunning hrun⟩
  | false =>
    cases hhigh : fitsRes high with
    | false => exact .inl ⟨_, .configureThreshold hrun (.inl hhigh)⟩
    | true =>
      cases hlow : fitsRes low with
      | false => exact .inl ⟨_, .configureThreshold hrun (.inr hlow)⟩
      | true =>
        cases hrate : s.cfg.rateOK rate with
        | false => exact .inl ⟨_, .configureRate hrun hhigh hlow hrate⟩
        | true => exact .inr ⟨_, .configure hrun hlow hhigh hrate⟩

/-- SET_RANGE's bound, then its zero entry (spec/41 R106). -/
theorem setRange_raises_or_performs (k : Half) (s : State) :
    (∃ c, Raises (.setRange k) s c) ∨ ∃ t, Performs (.setRange k) s t := by
  by_cases hk : k.toNat < 10
  · by_cases hzero : s.cfg.divisorTable[k.toNat] = 0
    · exact .inl ⟨_, .setRangeZeroEntry hk hzero⟩
    · exact .inr ⟨_, .setRange (Nat.le_of_lt_succ hk) (romDivtab_of_lt s.cfg hk) hzero⟩
  · exact .inl ⟨_, .setRangeOutOfBounds (by omega)⟩

/-- In an unfaulted state that a command answers, a check of it fails or it is performed. -/
theorem command_raises_or_performs {i : Instr} {s t : State} (hi : i.isCommand = true) (hf : s.fault = false)
    (h : exec i s = .next t) : (∃ c, Raises i s c) ∨ ∃ u, Performs i s u := by
  cases i with
  | configure rate pol low high => exact configure_raises_or_performs rate pol low high s
  | start =>
    cases hconf : s.configured with
    | true => exact .inr ⟨_, .start hconf⟩
    | false => exact .inl ⟨_, .start hconf⟩
  | stop => exact .inr ⟨_, .stop⟩
  | setDivisor n =>
    obtain rfl | hn := eq_or_ne n 0
    · exact .inl ⟨_, .setDivisor⟩
    · exact .inr ⟨_, .setDivisor hn⟩
  | setNextOutput code =>
    cases hcode : fitsRes code with
    | true => exact .inr ⟨_, .setNextOutput hcode⟩
    | false => exact .inl ⟨_, .setNextOutput hcode⟩
  | sample => cases hi
  | hasTicked => exact .inr ⟨_, .hasTicked⟩
  | ack => exact .inr ⟨_, .ack⟩
  | readAux =>
    cases haux : s.cfg.hasAux with
    | true => exact .inr ⟨_, .readAux haux⟩
    | false => exact .inl ⟨_, .readAux haux⟩
  | step => exact .inr ⟨_, .step⟩
  | deriveNote => exact .inr ⟨t, deriveNote_performs hf h⟩
  | forceBit => exact .inr ⟨_, .forceBit⟩
  | setFlipProb p => exact (le_or_gt s.cfg.flipDenom p.toNat).imp (⟨_, .setFlipProb ·⟩) (⟨_, .setFlipProb ·⟩)
  | setRange k => exact setRange_raises_or_performs k s
  | setScale sel => exact (lt_or_ge s.cfg.numScales sel.toNat).imp (⟨_, .setScale ·⟩) (⟨_, .setScale ·⟩)
  | setNote => exact .inr ⟨t, setNote_performs hf h⟩
  | getCode => exact .inr ⟨t, getCode_performs hf h⟩
  | getSemitone => exact .inr ⟨_, .getSemitone⟩

/-! ### Entering the faulted state -/

theorem fault_ne_of_entered {s t : State} (hf : s.fault = false) (ht : t.fault = true) : t.fault ≠ s.fault := by
  simp [hf, ht]

theorem performedSample_fault (s : State) : s.sampleClock.sampleAux.fault = s.fault := by
  obtain ⟨-, hs⟩ | ⟨-, -, hs⟩ | ⟨-, hs⟩ := performedSample_cases s <;> rw [hs] <;> rfl

/-- An instruction whose checks hold does not touch `fault`. -/
theorem performs_fault {i : Instr} {s t : State} (h : Performs i s t) : t.fault = s.fault := by
  cases h
  case sample => exact performedSample_fault s
  all_goals rfl

/-- An instruction enters the faulted state by a failing check alone (spec/60 R142, R143). -/
theorem exec_enters_fault {i : Instr} {s t : State} (h : exec i s = .next t) (hf : s.fault = false)
    (ht : t.fault = true) : ∃ c, Raises i s c ∧ t = s.withError c := by
  have hentered := fault_ne_of_entered hf ht
  cases hi : i.isCommand with
  | false =>
    obtain rfl := eq_sample_of_not_command hi
    obtain ⟨-, -, hs⟩ | ⟨-, hs⟩ := exec_sample_cases s <;> cases hs.symm.trans h
    · exact absurd (performedSample_fault s) hentered
    · exact absurd rfl hentered
  | true =>
    obtain ⟨c, hc⟩ | ⟨u, hu⟩ := command_raises_or_performs hi hf h
    · cases (exec_of_raises hf hc).symm.trans h
      exact ⟨c, hc, rfl⟩
    · cases (exec_of_performs hf hu).symm.trans h
      exact absurd (performs_fault hu) hentered

/-- A port word that is no instruction enters it as an illegal command word (spec/30 R65, R68). -/
theorem undecoded_enters_fault {p : PortWord} {s : State} (hf : s.fault = false)
    (ht : (s.undecoded p).fault = true) : s.undecoded p = s.withError .illegalCmd := by
  cases p with
  | cmd w => exact undecoded_cmd_of_ok hf w
  | tick b => exact absurd rfl (fault_ne_of_entered hf ht)

/-- Settles O24: reset clears the fault, so an instruction or an illegal word entered it, in a state that differs
from the old one in the queue alone. -/
theorem configurationErrorWritesNothingElse : Obligations.ConfigurationErrorWritesNothingElse := by
  unfold Obligations.ConfigurationErrorWritesNothingElse
  intro s t h hf ht
  obtain ⟨-, rfl⟩ | ⟨e, u, hevent, hserved⟩ := step_cases h
  · exact absurd rfl (fault_ne_of_entered hf ht)
  have hu : u.fault = false := (nextEvent_fault hevent).left.trans hf
  obtain ⟨c, hc⟩ : ∃ c, t = u.withError c := by
    obtain ⟨-, rfl⟩ | ⟨p, i, -, -, hexec⟩ | ⟨p, -, -, rfl⟩ := hserved
    · exact absurd ht nofun
    · obtain ⟨c, -, hc⟩ := exec_enters_fault hexec hu ht
      exact ⟨c, hc⟩
    · exact ⟨.illegalCmd, undecoded_enters_fault hu ht⟩
  refine ⟨c, ?_⟩
  rw [hc, State.nextEvent_state hevent]
  rfl

/-- Settles O25, by the check that failed. -/
theorem eachInstructionRaisesOnlyItsCauses : Obligations.EachInstructionRaisesOnlyItsCauses := by
  unfold Obligations.EachInstructionRaisesOnlyItsCauses
  intro i s t h hf ht
  obtain ⟨c, hc, rfl⟩ := exec_enters_fault h hf ht
  have hcause : (s.withError c).faultCause = some c := rfl
  cases hc with
  | configureRunning | configureThreshold | configureRate => simp [hcause]
  | start | setDivisor | setNextOutput | setFlipProb | setRangeOutOfBounds | setRangeZeroEntry | setScale =>
    simp [hcause]
  | readAux haux => simp [hcause, haux]

end Sys2Proof.Proofs
end

section
/-!
PROOFS. The reset strobe (spec/70 R170, R171), and the music beside the clock engine (spec/70 R185): an instruction
of the sequencer or the quantizer reads nothing of the clock engine, so it commutes with putting the same music
beside another one.
-/
namespace Sys2Proof.Proofs

open Sys2Proof.Machine

/-! ### The reset strobe -/

theorem step_of_reset {s u : State} (h : s.nextEvent = some (.reset, u)) : step s = .next u.resetStrobe := by
  simp only [step, fetch, h, serve]

/-- Settles O10: the strobe at the head of the queue is served as `State.resetStrobe`. -/
theorem resetStrobeGivesTheResetState : Obligations.ResetStrobeGivesTheResetState := by
  unfold Obligations.ResetStrobeGivesTheResetState
  exact fun _ _ h => step_of_reset (nextEvent_of_one h)

/-! ### The same music beside another clock engine -/

/-- The state `u` with all that `State.sameMusic` compares taken from `s`; the clock engine, the queue and the
record of the ports stay those of `u`. -/
def withMusicOf (s u : State) : State :=
  { u with
    fault := s.fault
    faultCause := s.faultCause
    reg := s.reg
    flipNum := s.flipNum
    rangeIndex := s.rangeIndex
    rangeDivisor := s.rangeDivisor
    scaleSel := s.scaleSel
    octave := s.octave
    semitone := s.semitone
    cfg := s.cfg
    drawAnswers := s.drawAnswers
    draws := s.draws }

theorem sameMusic_withMusicOf (s u : State) : s.sameMusic (withMusicOf s u) :=
  ⟨rfl, rfl, rfl, rfl, rfl, rfl, rfl⟩

/-- A state with the music of `s` is `s`'s music beside its own clock engine. -/
theorem withMusicOf_of_sameMusic {s u : State} (h : s.sameMusic u) : withMusicOf s u = u := by
  obtain ⟨hfault, hcause, hseq, hquant, hcfg, hanswers, hdraws⟩ := h
  simp only [State.sequencer, State.quantizer, Prod.mk.injEq] at hseq hquant
  obtain ⟨hreg, hflip, hindex, hdivisor⟩ := hseq
  obtain ⟨hsel, hoctave, hsemitone⟩ := hquant
  rw [withMusicOf, hfault, hcause, hreg, hflip, hindex, hdivisor, hsel, hoctave, hsemitone, hcfg, hanswers, hdraws]

theorem lastEvent_logged (s : State) (e : PortEvent) : (s.logged [e]).trace.getLast? = some e :=
  List.getLast?_concat

section Music

variable {i : Instr} {s t : State} (hi : partOf i ≠ .clock) (u : State)
include hi

/-- The checks of the sequencer and the quantizer read the parameters alone (spec/41 R105, R106, spec/42 R121). -/
theorem raises_withMusicOf {c : Cause} (h : Raises i s c) : Raises i (withMusicOf s u) c := by
  cases h with
  | configureRunning | configureThreshold | configureRate | start | setDivisor | setNextOutput | readAux =>
    exact absurd rfl hi
  | setFlipProb hp => exact .setFlipProb hp
  | setRangeOutOfBounds hk => exact .setRangeOutOfBounds hk
  | setRangeZeroEntry hk hzero => exact .setRangeZeroEntry hk hzero
  | setScale hsel => exact .setScale hsel

/-- Performing an instruction commutes with replacing the clock engine, and the last port event, its response, is
the same one. -/
theorem performs_withMusicOf (h : Performs i s t) :
    ∃ (v : State) (e : PortEvent), Performs i (withMusicOf s u) (withMusicOf t (v.logged [e])) ∧
      t.trace.getLast? = some e := by
  cases h with
  | configure | start | stop | setDivisor | setNextOutput | sample | hasTicked | ack | readAux =>
    exact absurd rfl hi
  | step => exact ⟨u.logged [.draw s.nextDraw], _, .step, lastEvent_logged _ _⟩
  | deriveNote hdiv => exact ⟨u, _, .deriveNote hdiv, lastEvent_logged _ _⟩
  | forceBit => exact ⟨u, _, .forceBit, lastEvent_logged _ _⟩
  | setFlipProb hp => exact ⟨u, _, .setFlipProb hp, lastEvent_logged _ _⟩
  | setRange hk hrom hd => exact ⟨u, _, .setRange hk hrom hd, lastEvent_logged _ _⟩
  | setScale hsel => exact ⟨u, _, .setScale hsel, lastEvent_logged _ _⟩
  | setNote hres => exact ⟨u, _, .setNote hres, lastEvent_logged _ _⟩
  | getCodeInTable hidx => exact ⟨u, _, .getCodeInTable hidx, lastEvent_logged _ _⟩
  | getCodeClamped hidx => exact ⟨u, _, .getCodeClamped hidx, lastEvent_logged _ _⟩
  | getSemitone => exact ⟨u, _, .getSemitone, lastEvent_logged _ _⟩

theorem isCommand_of_music : i.isCommand = true := by
  cases h : i.isCommand with
  | true => rfl
  | false =>
    rw [eq_sample_of_not_command h] at hi
    exact absurd rfl hi

/-- Refused, failed or performed, the instruction does beside `u` what it does beside the clock engine of `s`. -/
theorem exec_withMusicOf (h : exec i s = .next t) :
    ∃ (v : State) (e : PortEvent), exec i (withMusicOf s u) = .next (withMusicOf t (v.logged [e])) ∧
      t.trace.getLast? = some e := by
  have hcommand := isCommand_of_music hi
  cases hf : s.fault with
  | true =>
    cases (exec_of_fault hcommand hf).symm.trans h
    exact ⟨u, _, exec_of_fault hcommand hf, lastEvent_logged _ _⟩
  | false =>
    obtain ⟨c, hc⟩ | ⟨t₁, hp⟩ := command_raises_or_performs hcommand hf h
    · have hraise := exec_of_raises hf hc
      have hraise' := exec_of_raises (s := withMusicOf s u) hf (raises_withMusicOf hi u hc)
      rw [← State.raise_eq_withError] at hraise hraise'
      cases hraise.symm.trans h
      exact ⟨({ u with running := false } : State).logged [.timerStop], .rsp ⟨.fault, c.code.setWidth 16⟩, hraise',
        lastEvent_logged _ _⟩
    · cases (exec_of_performs hf hp).symm.trans h
      obtain ⟨v, e, hp', hlast⟩ := performs_withMusicOf hi u hp
      exact ⟨v, e, exec_of_performs hf hp', hlast⟩

end Music

/-- Settles O26: the second state is the music of the first beside its own clock engine. -/
theorem musicDoesNotDependOnTheClockEngine : Obligations.MusicDoesNotDependOnTheClockEngine := by
  unfold Obligations.MusicDoesNotDependOnTheClockEngine
  intro i s s' t hi hsame h
  obtain ⟨v, e, hexec, hlast⟩ := exec_withMusicOf hi s' h
  rw [withMusicOf_of_sameMusic hsame] at hexec
  exact ⟨_, hexec, sameMusic_withMusicOf _ _, hlast.trans (lastEvent_logged v e).symm⟩

end Sys2Proof.Proofs
end

section
/-!
PROOFS. Words the spec prints. A legal word is the encoding of the instruction printed beside it, so it decodes
to that instruction; an illegal word lies in no row of the opcode map (spec/95 V-ENC, spec/30 R63, R64).
-/
namespace Sys2Proof.Proofs

/-- To decode a printed command word it is enough to encode the instruction printed beside it. -/
theorem decodeCmd_of_encode {i : Instr} {w : CmdWord} (h : encode i = .cmd w) : decodeCmd w = some i :=
  (congrArg decodePort h).symm.trans (encodedInstructionsDecodeBack i)

/-- Settles O4: seven words encode the instructions named, and no row of the map accepts the other three: bit 49
of CONFIGURE's zero field is set, bit 1 of FORCE_BIT's, and no row has the opcode 0xFF. -/
theorem specWordsDecodeToTheirInstructions : Obligations.SpecWordsDecodeToTheirInstructions := by
  unfold Obligations.SpecWordsDecodeToTheirInstructions
  refine ⟨?configure1000, ?configure500, ?setNextOutput, ?forceBit, ?setFlipProb, ?setNote, ?getSemitone,
    ?reservedBit, ?forceTwo, ?noOpcode⟩
  case reservedBit | forceTwo | noOpcode => exact decodeCmd_of_noRow (by decide)
  all_goals exact decodeCmd_of_encode (by decide)

end Sys2Proof.Proofs
end
